-- ==== Sys2Proof/Word.lean ====
section
/-! DEFINITION. The word types of the block (spec/00_scope.md R5 to R7): every quantity is unsigned, bit 0 is the
least significant bit, a byte is 8 bits and a byte string is a list of bytes, index 0 first. -/

namespace Sys2Proof

/-- A byte (R7). -/
abbrev Byte := BitVec 8

/-- A 16-bit field or register (R40, R42). -/
abbrev Half := BitVec 16

/-- A 32-bit operand, register or status value (R27, R70). -/
abbrev Word := BitVec 32

/-- A byte string, index 0 first (R7). -/
abbrev Bytes := List Byte

end Sys2Proof
end

