-- ==== Sys2Proof/Config.lean ====
section
/-! DEFINITION. What one instance of the hardware fixes (spec/00_scope.md R2): the parameters, their constraints and
the instance the reset state describes. The parameters are the model's argument: State carries them, no step changes
them, and the statements hold for every value of them (log 5). -/

namespace Sys2Proof

/-- The instance parameters of R2, each as wide as the status file of spec/10_state.md R27 shows it, so that the upper
bounds of R2 hold by type. `tickPeriod` is a real time in a unit the spec does not give; no rule depends on it (log 13). -/
structure Params where
  crcPoly : Half
  fragmentSize : Half
  fragThreshold : Half
  ackTimeout : Word
  maxRetry : Byte
  tickPeriod : Nat
deriving DecidableEq, Repr

/-- The lower bounds of R2. A parameter record outside them is no instance of this hardware
(spec/93_implementation_defined.md U12; log 15). -/
abbrev Params.Valid (p : Params) : Prop :=
  p.fragmentSize ≠ 0#16 ∧ p.ackTimeout ≠ 0#32 ∧ p.maxRetry ≠ 0#8 ∧ 0 < p.tickPeriod

/-- DESIGN CHOICE (log 5), unsafe: the instance of the reset state. `CRC_POLY` is R2's value; `FRAGMENT_SIZE = 16` and
`FRAG_THRESHOLD = 16` are the instance P16 of spec/95_test_vectors.md section 1, with `ACK_TIMEOUT = 2` and
`MAX_RETRY = 3` as in its vectors V-SYS-2. The spec leaves all but `CRC_POLY` OPEN. -/
def Params.p16 : Params where
  crcPoly := 0x8005#16
  fragmentSize := 16#16
  fragThreshold := 16#16
  ackTimeout := 2#32
  maxRetry := 3#8
  tickPeriod := 1

end Sys2Proof
end

