-- ==== Sys2Proof/Syntax.lean ====
section
/-! DEFINITION. The operations of the block, one constructor per row of spec/opcode_table.json: 14 commands
(spec/30_encoding.md R72) and three stimuli (R73); and the input transactions they arrive as (R62). -/

namespace Sys2Proof

/-- One operation of the block with its operands as spec/30_encoding.md R69 to R73 assemble them. -/
inductive Instr where
  /-- CRC.COMPUTE, opcode 0x01, F_DATA. -/
  | crcCompute (data : Bytes)
  /-- CRC.VERIFY, opcode 0x02, F_U16_DATA. -/
  | crcVerify (claimed : Half) (data : Bytes)
  /-- HAM.ENC, opcode 0x10, F_U8. -/
  | hamEnc (nib : Byte)
  /-- HAM.DEC, opcode 0x11, F_U8. -/
  | hamDec (cw : Byte)
  /-- FEC.ENC, opcode 0x12, F_DATA. -/
  | fecEnc (data : Bytes)
  /-- FEC.DEC, opcode 0x13, F_U16_DATA: the original length, then the image. -/
  | fecDec (len : Half) (img : Bytes)
  /-- FRM.ENC, opcode 0x20, F_HDR_DATA. -/
  | frmEnc (seq fid total : Byte) (payload : Bytes)
  /-- FRM.DEC, opcode 0x21, F_DATA. -/
  | frmDec (f : Bytes)
  /-- FRG.SHOULD, opcode 0x30, F_U32. -/
  | frgShould (mlen : Word)
  /-- FRG.SPLIT, opcode 0x31, F_DATA. -/
  | frgSplit (msg : Bytes)
  /-- FRG.ACCEPT, opcode 0x32, F_HDR_DATA with the first header byte as the key. -/
  | frgAccept (key fid total : Byte) (payload : Bytes)
  /-- FRG.DROP, opcode 0x33, F_NONE. -/
  | frgDrop
  /-- ARQ.SEND, opcode 0x40, F_DATA. -/
  | arqSend (msg : Bytes)
  /-- STAT.RD, opcode 0x41, F_U8. -/
  | statRd (idx : Byte)
  /-- RX, event code 0x80: a received datagram on the RX port. -/
  | rx (f : Bytes)
  /-- TICK, event code 0x81: a pulse on the TICK port. -/
  | tick
  /-- RESET, event code 0x82: a pulse on the RESET port. -/
  | reset
deriving DecidableEq, Repr

/-- One input transaction: what arrives on an input port (spec/30_encoding.md R62). It is what the block has in place
of the words of an instruction: a CMD byte string, a datagram, or a pulse without content. -/
inductive Event where
  | cmd (c : Bytes)
  | rx (f : Bytes)
  | tick
  | reset
deriving DecidableEq, Repr

/-- One output transaction: what the block emits on an output port (spec/30_encoding.md R62, R71, R77, R79). -/
inductive Output where
  | rsp (r : Bytes)
  | tx (frame : Bytes)
  | dlv (msg : Bytes)
  | evt (kind code : Byte)
deriving DecidableEq, Repr

end Sys2Proof
end

