-- ==== Sys2Proof/Machine/Operands.lean ====
section
/-! DEFINITION. Operand forms: byte order (spec/00_scope.md R7, spec/20_memory.md R40, spec/30_encoding.md R70), bit
streams (R7, R41), sub-strings, and the limits that follow from the parameters (spec/00_scope.md R3). -/

namespace Sys2Proof.Machine

/-- `ceil(a/b)` for b > 0 (spec/00_scope.md R8). -/
def ceilDiv (a b : Nat) : Nat := (a + b - 1) / b

/-! ## Byte order -/

/-- `be16(v) = [v[15:8], v[7:0]]` (R7). -/
def be16 (v : Half) : Bytes := [v.extractLsb' 8 8, v.extractLsb' 0 8]

/-- `un_be16` of two bytes, the more significant first (R7). -/
def unBe16 (hi lo : Byte) : Half := hi ++ lo

/-- `be32(v)`: four bytes, most significant first (spec/30_encoding.md R70). -/
def be32 (v : Word) : Bytes :=
  [v.extractLsb' 24 8, v.extractLsb' 16 8, v.extractLsb' 8 8, v.extractLsb' 0 8]

/-- The 32-bit operand of four bytes, most significant first (spec/30_encoding.md R70). -/
def unBe32 (a b c d : Byte) : Word := a ++ b ++ c ++ d

/-- A length as a 16-bit field. Within the limits of R3 no length is cut (log 18). -/
def len16 (s : Bytes) : Half := BitVec.ofNat 16 s.length

/-- A length as a 32-bit register. Within the limits of R3 no length is cut (log 18). -/
def len32 (s : Bytes) : Word := BitVec.ofNat 32 s.length

/-- A truth value as a result byte: 0x01 true, 0x00 false (spec/30_encoding.md R72). -/
def boolByte (b : Bool) : Byte := if b then 0x01#8 else 0x00#8

/-- The n-byte sub-string `s[off .. off+n)`, cut at the end of s (R7). -/
def slice (s : Bytes) (off n : Nat) : Bytes := (s.drop off).take n

/-! ## Bit streams: bytes in index order, each most significant bit first (R7, R41) -/

/-- The bits of a vector, most significant first. -/
def bitsMsb {w : Nat} (v : BitVec w) : List Bool := (List.range w).map fun i => v.getMsbD i

/-- The stream of a byte string (R7). -/
def bitStream (s : Bytes) : List Bool := s.flatMap bitsMsb

/-- The number whose binary digits are the given bits, the first most significant. -/
def natOfBits (bs : List Bool) : Nat := bs.foldl (fun n b => 2 * n + b.toNat) 0

/-- The stream padded with zero bits to a multiple of 8 (spec/41_hamming.md R105). -/
def padToBytes (bs : List Bool) : List Bool :=
  bs ++ List.replicate ((8 - bs.length % 8) % 8) false

/-- A stream cut into bytes, most significant bit first; a rest of fewer than 8 bits would be dropped, and after
`padToBytes` there is none (spec/41_hamming.md R105). -/
def cutBytes : List Bool → Bytes
  | a :: b :: c :: d :: e :: f :: g :: h :: rest =>
    BitVec.ofNat 8 (natOfBits [a, b, c, d, e, f, g, h]) :: cutBytes rest
  | _ => []

/-! ## Limits (spec/00_scope.md R3) -/

/-- `FECLEN(L) = ceil(7*L/4)` (R3; spec/41_hamming.md R106). -/
def fecLen (l : Nat) : Nat := ceilDiv (7 * l) 4

/-- `MAX_FRAGS = 255` (R3). -/
def maxFrags : Nat := 255

/-- `MAX_PAYLOAD = max(FS, TH)` (R3). -/
def maxPayload (p : Params) : Nat := max p.fragmentSize.toNat p.fragThreshold.toNat

/-- `MIN_FRAME = 7` (R3): three header bytes, two length bytes, two CRC bytes (spec/30_encoding.md R64). -/
def minFrame : Nat := 7

/-- `MAX_FRAME = 7 + FECLEN(MAX_PAYLOAD)` (R3). -/
def maxFrame (p : Params) : Nat := minFrame + fecLen (maxPayload p)

/-- `MAX_MSG = max(TH, 255*FS)` (R3). -/
def maxMsg (p : Params) : Nat := max p.fragThreshold.toNat (maxFrags * p.fragmentSize.toNat)

/-- `SHOULD(mlen) = (mlen > FRAG_THRESHOLD)` (spec/43_fragmentation.md R141). -/
def should (p : Params) (mlen : Nat) : Bool := decide (p.fragThreshold.toNat < mlen)

/-- The number of fragments a length needs, `ceil(len / FRAGMENT_SIZE)` (spec/43_fragmentation.md R142,
spec/44_arq.md R162). -/
def fragsNeeded (p : Params) (mlen : Nat) : Nat := ceilDiv mlen p.fragmentSize.toNat

/-- The acknowledgment marker, the bytes 0x41 0x43 0x4B (spec/30_encoding.md R67). PRESUMED by the spec itself from
general knowledge, the ASCII codes of `ACK` (log 9). -/
def ackMarker : Bytes := [0x41#8, 0x43#8, 0x4B#8]

/-- The indices of the status file (spec/10_state.md R27): every other index is reserved. -/
def statIndices : List Byte :=
  [0x00#8, 0x01#8, 0x02#8, 0x03#8, 0x04#8, 0x05#8, 0x06#8, 0x07#8, 0x08#8, 0x09#8, 0x0A#8,
   0x10#8, 0x11#8, 0x12#8, 0x13#8, 0x14#8]

/-- The fragment metadata no conforming sender produces: `total = 0` or `fid >= total`
(spec/43_fragmentation.md R146, spec/44_arq.md R174). -/
def badMeta (fid total : Byte) : Bool := decide (total = 0#8) || decide (total ≤ fid)

end Sys2Proof.Machine
end

