-- ==== Sys2Proof/Decode.lean ====
section
/-! DEFINITION. Decoding of input transactions, total on any bytes and rejecting by name (spec/30_encoding.md R69 to R74,
spec/45_system.md R200), and the encoder. A stimulus has no opcode on any port: the port identifies it (R73). -/

namespace Sys2Proof

/-- Why the dispatcher refuses a CMD transaction (spec/45_system.md R200). -/
inductive CmdError where
  /-- Empty transaction or unknown opcode (R203). -/
  | illegalCmd
  /-- The length does not fit the opcode's format (R202). -/
  | badOperand
deriving DecidableEq, Repr

/-! ## The formats of spec/30_encoding.md R69: the operands after the opcode byte -/

/-- `F_NONE`: nothing follows the opcode. -/
def parseNone (k : Instr) : Bytes → Except CmdError Instr
  | [] => .ok k
  | _ :: _ => .error .badOperand

/-- `F_U8`: exactly one byte. -/
def parseU8 (k : Byte → Instr) : Bytes → Except CmdError Instr
  | [a] => .ok (k a)
  | _ => .error .badOperand

/-- `F_U32`: exactly four bytes, most significant first. -/
def parseU32 (k : Word → Instr) : Bytes → Except CmdError Instr
  | [a, b, c, d] => .ok (k (Machine.unBe32 a b c d))
  | _ => .error .badOperand

/-- `F_DATA`: a byte string to the end of the transaction. -/
def parseData (k : Bytes → Instr) (args : Bytes) : Except CmdError Instr := .ok (k args)

/-- `F_U16_DATA`: two bytes, then a byte string. -/
def parseU16Data (k : Half → Bytes → Instr) : Bytes → Except CmdError Instr
  | a :: b :: data => .ok (k (Machine.unBe16 a b) data)
  | _ => .error .badOperand

/-- `F_HDR_DATA`: three header bytes, then a byte string. -/
def parseHdrData (k : Byte → Byte → Byte → Bytes → Instr) : Bytes → Except CmdError Instr
  | a :: b :: c :: data => .ok (k a b c data)
  | _ => .error .badOperand

/-- Dispatch of one CMD transaction (spec/45_system.md R200): empty or unknown opcode first, then the format, with the
opcode map of spec/30_encoding.md R72 (all 8 bits compared). -/
def decodeCmd : Bytes → Except CmdError Instr
  | [] => .error .illegalCmd
  | op :: args =>
    match op with
    | 0x01#8 => parseData .crcCompute args
    | 0x02#8 => parseU16Data .crcVerify args
    | 0x10#8 => parseU8 .hamEnc args
    | 0x11#8 => parseU8 .hamDec args
    | 0x12#8 => parseData .fecEnc args
    | 0x13#8 => parseU16Data .fecDec args
    | 0x20#8 => parseHdrData .frmEnc args
    | 0x21#8 => parseData .frmDec args
    | 0x30#8 => parseU32 .frgShould args
    | 0x31#8 => parseData .frgSplit args
    | 0x32#8 => parseHdrData .frgAccept args
    | 0x33#8 => parseNone .frgDrop args
    | 0x40#8 => parseData .arqSend args
    | 0x41#8 => parseU8 .statRd args
    | _ => .error .illegalCmd

/-- The operation an input transaction stands for, or the dispatcher's refusal. Only CMD transactions can be refused:
a datagram of any length is an RX event and a pulse has no content (spec/30_encoding.md R62, R73). -/
def decode : Event → Except CmdError Instr
  | .cmd c => decodeCmd c
  | .rx f => .ok (.rx f)
  | .tick => .ok .tick
  | .reset => .ok .reset

/-! ## The encoder -/

/-- The opcode or event code of spec/30_encoding.md R72 and R73. -/
def Instr.opcode : Instr → Byte
  | .crcCompute _ => 0x01#8
  | .crcVerify _ _ => 0x02#8
  | .hamEnc _ => 0x10#8
  | .hamDec _ => 0x11#8
  | .fecEnc _ => 0x12#8
  | .fecDec _ _ => 0x13#8
  | .frmEnc _ _ _ _ => 0x20#8
  | .frmDec _ => 0x21#8
  | .frgShould _ => 0x30#8
  | .frgSplit _ => 0x31#8
  | .frgAccept _ _ _ _ => 0x32#8
  | .frgDrop => 0x33#8
  | .arqSend _ => 0x40#8
  | .statRd _ => 0x41#8
  | .rx _ => 0x80#8
  | .tick => 0x81#8
  | .reset => 0x82#8

/-- The bytes after the opcode, laid out by the format table of spec/30_encoding.md R69. -/
def Instr.operandBytes : Instr → Bytes
  | .crcCompute data => data
  | .crcVerify claimed data => Machine.be16 claimed ++ data
  | .hamEnc nib => [nib]
  | .hamDec cw => [cw]
  | .fecEnc data => data
  | .fecDec len img => Machine.be16 len ++ img
  | .frmEnc seq fid total payload => [seq, fid, total] ++ payload
  | .frmDec f => f
  | .frgShould mlen => Machine.be32 mlen
  | .frgSplit msg => msg
  | .frgAccept key fid total payload => [key, fid, total] ++ payload
  | .frgDrop => []
  | .arqSend msg => msg
  | .statRd idx => [idx]
  | .rx f => f
  | .tick => []
  | .reset => []

/-- A CMD transaction: `[opcode] ++ operands` (R69). -/
def encodeCmd (i : Instr) : Event := .cmd (i.opcode :: i.operandBytes)

/-- The input transaction of an instruction: `[opcode] ++ operands` on CMD, or the stimulus on its own port (R69, R73). -/
def encode : Instr → Event
  | .crcCompute data => encodeCmd (.crcCompute data)
  | .crcVerify claimed data => encodeCmd (.crcVerify claimed data)
  | .hamEnc nib => encodeCmd (.hamEnc nib)
  | .hamDec cw => encodeCmd (.hamDec cw)
  | .fecEnc data => encodeCmd (.fecEnc data)
  | .fecDec len img => encodeCmd (.fecDec len img)
  | .frmEnc seq fid total payload => encodeCmd (.frmEnc seq fid total payload)
  | .frmDec f => encodeCmd (.frmDec f)
  | .frgShould mlen => encodeCmd (.frgShould mlen)
  | .frgSplit msg => encodeCmd (.frgSplit msg)
  | .frgAccept key fid total payload => encodeCmd (.frgAccept key fid total payload)
  | .frgDrop => encodeCmd .frgDrop
  | .arqSend msg => encodeCmd (.arqSend msg)
  | .statRd idx => encodeCmd (.statRd idx)
  | .rx f => .rx f
  | .tick => .tick
  | .reset => .reset

/-! ## The table's numbering of bits (log 11) -/

/-- The first `n` bytes of a number, bits 7..0 first. -/
def tableBytes : Nat → Nat → Bytes
  | 0, _ => []
  | n + 1, w => BitVec.ofNat 8 w :: tableBytes n (w / 256)

/-- The bytes that the opcode's format fixes after the opcode byte (spec/30_encoding.md R69, the fixed part less one). -/
def fixedOperands (op : Byte) : Nat :=
  match op with
  | 0x02#8 => 2
  | 0x10#8 => 1
  | 0x11#8 => 1
  | 0x13#8 => 2
  | 0x20#8 => 3
  | 0x30#8 => 4
  | 0x32#8 => 3
  | 0x41#8 => 1
  | _ => 0

/-- The input transaction of the table's bits: the code byte chooses the port (spec/30_encoding.md R73); operand bytes
the table gives no bits to are 0, up to the format's fixed part, and the byte-string operand ends where the bits end. -/
def tableEvent (nbits w : Nat) : Option Event :=
  match tableBytes (nbits / 8) w with
  | [] => none
  | op :: args =>
    if op = 0x80#8 then some (.rx args)
    else if op = 0x81#8 then (if args.isEmpty then some .tick else none)
    else if op = 0x82#8 then (if args.isEmpty then some .reset else none)
    else some (.cmd (op :: (args ++ List.replicate (fixedOperands op - args.length) 0x00#8)))

/-- The instruction the decoder reads from the table's bits, none where it refuses. -/
def decodeTableWord (nbits w : Nat) : Option Instr :=
  match tableEvent nbits w with
  | none => none
  | some e =>
    match decode e with
    | .ok i => some i
    | .error _ => none

end Sys2Proof
end

