-- ==== Sys2Proof/Machine/Flags.lean ====
section
/-! DEFINITION. Status codes (spec/60_exceptions.md R210), the send-side states with their codes (spec/10_state.md R13)
and the saturating increment (R19). The block has no condition codes and no flag that one operation sets for a later one
(R18): a command's status is returned in its response and not kept. -/

namespace Sys2Proof.Machine

/-- The error and status kinds of R210. -/
inductive Status where
  | ok
  | malformedShort
  | integrity
  /-- Reserved, never raised (R214). -/
  | uncorrectableFec
  | retryExhausted
  /-- Internal, never output (R217). -/
  | channelTimeout
  | malformedOversize
  | malformedLength
  | badMeta
  | busy
  | tooLong
  | illegalCmd
  | badOperand
deriving DecidableEq, Repr

/-- The code column of R210. -/
def Status.code : Status → Byte
  | .ok => 0x00#8
  | .malformedShort => 0x01#8
  | .integrity => 0x02#8
  | .uncorrectableFec => 0x03#8
  | .retryExhausted => 0x04#8
  | .channelTimeout => 0x05#8
  | .malformedOversize => 0x11#8
  | .malformedLength => 0x12#8
  | .badMeta => 0x13#8
  | .busy => 0x20#8
  | .tooLong => 0x21#8
  | .illegalCmd => 0x22#8
  | .badOperand => 0x23#8

/-- The state of the send side (spec/10_state.md R13). The reserved codes 5, 6, 7 are never written by any rule and
have no constructor (log 16). -/
inductive ArqState where
  | idle
  | pending
  | partiallyAcked
  | acked
  | failed
deriving DecidableEq, Repr

/-- The 3-bit code of `arq_state` (spec/10_state.md R13). -/
def ArqState.code : ArqState → BitVec 3
  | .idle => 0#3
  | .pending => 1#3
  | .partiallyAcked => 2#3
  | .acked => 3#3
  | .failed => 4#3

/-- A send is in flight exactly in `PENDING` and `PARTIALLY_ACKED` (spec/10_state.md R13). -/
def ArqState.inFlight : ArqState → Bool
  | .pending => true
  | .partiallyAcked => true
  | .idle => false
  | .acked => false
  | .failed => false

/-- `sat16(v + 1)`: the increment of a drop counter, which stays at 0xFFFF (spec/10_state.md R19, spec/44_arq.md R173). -/
def satInc (c : Half) : Half := if c = 0xFFFF#16 then 0xFFFF#16 else c + 1#16

/-- `SEND_DONE`, the one kind of EVT transaction (spec/30_encoding.md R79). -/
def sendDone : Byte := 0x01#8

end Sys2Proof.Machine
end

