-- ==== Sys2Proof/Machine/State.lean ====
section
/-! DEFINITION. The state of one instance of the block (spec/10_state.md R10 to R24), its reset value (R30), and the
reasons a step could stop. -/

namespace Sys2Proof.Machine

/-- The machine stops with a fault. This type has NO constructor: nothing in this hardware faults or locks up
(spec/60_exceptions.md R221, R229; spec/93_implementation_defined.md section 1), so no step raises one (log 10). Safe:
no behaviour of the hardware is replaced by a stop. -/
inductive Fault where
deriving DecidableEq, Repr

/-- No meaning for the instruction. -/
inductive Refusal where
  /-- Raised only by an arm of `exec` whose instruction has no meaning yet; there is none in this model. Safe: a step
  that refuses says nothing of the hardware. -/
  | notModelled (mnemonic : String)
deriving DecidableEq, Repr

/-- The bytes of one buffer, as (offset, byte) cells in canonical form: offsets strictly rising, no cell holding what an
unlisted offset reads as. The block has no addressable memory (spec/10_state.md R25); its storage is the buffers of R22
and R23, and each is one of these (log 6). -/
abbrev Memory := List Host.Cell

/-- What an offset nothing is listed for reads as. DESIGN CHOICE (log 6), unsafe: the spec leaves the contents of a
buffer unspecified until they are written, and no rule reads them before (spec/93_implementation_defined.md U7). -/
def Memory.unlisted : Byte := 0x00#8

/-- The canonical form. -/
abbrev Memory.wf (m : Memory) : Prop :=
  m.Pairwise (fun x y => x.1 < y.1) ∧ ∀ c ∈ m, c.2 ≠ Memory.unlisted

/-- One element for each fragment id or slot 0 to 254 (spec/10_state.md R20, R23). -/
abbrev Bank (α : Type) := Vector α 255

/-- The state. The fields up to `cntBadmeta` are the elements of spec/10_state.md; `params` are the instance's constants
(spec/00_scope.md R2, log 5); `presented` and `emitted` are the MODEL's own: what the environment has presented on the
input ports and not yet been processed (log 1), and what the block has emitted on the output ports, oldest first
(log 4). -/
structure State where
  params : Params
  /-- R12. -/
  sendSeq : BitVec 1
  /-- R12. -/
  expectedRecvSeq : BitVec 1
  /-- R13. -/
  arqState : ArqState
  /-- R14. -/
  txTotal : Byte
  /-- R14. -/
  txLen : Word
  /-- R15. -/
  ackTimer : Word
  /-- R20. -/
  pending : Bank Bool
  /-- R20. -/
  retryCnt : Bank Byte
  /-- R22. -/
  txMsg : Memory
  /-- R16. -/
  rbActive : Bool
  /-- R16. -/
  rbKey : Byte
  /-- R16. -/
  rbTotal : Byte
  /-- R23. -/
  rbValid : Bank Bool
  /-- R23. -/
  rbLen : Bank Half
  /-- R23. -/
  rbData : Bank Memory
  /-- R19. -/
  cntMalformed : Half
  /-- R19. -/
  cntIntegrity : Half
  /-- R19. -/
  cntBadmeta : Half
  /-- The environment's schedule: batches of stimuli it regards as simultaneous, each in the serialisation it chose. -/
  presented : List (List Event)
  /-- Every output transaction emitted so far. -/
  emitted : List Output
deriving DecidableEq, Repr

/-- The state after reset of an instance with the given parameters (spec/10_state.md R30, spec/70_reset_and_hazards.md
R240): nothing presented, nothing emitted. The contents of `txMsg`, `rbLen`, `rbData` are unspecified by R30 (log 6,
log 7). -/
def State.resetOf (p : Params) : State where
  params := p
  sendSeq := 0#1
  expectedRecvSeq := 0#1
  arqState := .idle
  txTotal := 0#8
  txLen := 0#32
  ackTimer := 0#32
  pending := Vector.replicate 255 false
  retryCnt := Vector.replicate 255 0#8
  txMsg := []
  rbActive := false
  rbKey := 0#8
  rbTotal := 0#8
  rbValid := Vector.replicate 255 false
  rbLen := Vector.replicate 255 0#16
  rbData := Vector.replicate 255 []
  cntMalformed := 0#16
  cntIntegrity := 0#16
  cntBadmeta := 0#16
  presented := []
  emitted := []

/-- The machine right after reset, for the instance `Params.p16` (log 5). -/
def State.reset : State := State.resetOf Params.p16

end Sys2Proof.Machine
end

