-- ==== Sys2Proof/Machine/Ops.lean ====
section
/-! DEFINITION. The named operations over buffers, arrays, outputs, errors, counters and the reassembly buffer that the
instructions share. -/

namespace Sys2Proof.Machine

/-! ## Buffers (spec/00_scope.md R8, spec/20_memory.md R45) -/

/-- The byte at an offset of a buffer. -/
def Memory.read : Memory → Nat → Byte
  | [], _ => Memory.unlisted
  | (b, v) :: m, a => if b = a then v else Memory.read m a

/-- One byte stored, keeping the canonical form. -/
def Memory.write : Memory → Nat → Byte → Memory
  | [], a, v => if v = Memory.unlisted then [] else [(a, v)]
  | (b, w) :: m, a, v =>
    if a < b then (if v = Memory.unlisted then (b, w) :: m else (a, v) :: (b, w) :: m)
    else if a = b then (if v = Memory.unlisted then m else (a, v) :: m)
    else (b, w) :: Memory.write m a v

/-- `MemRead(buf, off, n)` (R8). -/
def memRead (m : Memory) (off n : Nat) : Bytes := (List.range n).map fun k => m.read (off + k)

/-- `MemWrite(buf, off, n, v)` with `n` the length of `v` (R8). -/
def memWrite (m : Memory) (off : Nat) : Bytes → Memory
  | [] => m
  | b :: bs => memWrite (m.write off b) (off + 1) bs

/-! ## Arrays of 255 elements -/

/-- The element at an index; the default beyond 254, which no rule reads. -/
def Bank.get {α : Type} [Inhabited α] (b : Bank α) (i : Nat) : α := b[i]?.getD default

/-- One element replaced. -/
def Bank.put {α : Type} (b : Bank α) (i : Nat) (x : α) : Bank α := b.setIfInBounds i x

/-- The array whose element i is `f i`. -/
def Bank.tabulate {α : Type} (f : Nat → α) : Bank α := ⟨((List.range 255).map f).toArray, by simp⟩

/-- `for i = 0 to 254: b[i] <- x`. -/
def Bank.fill {α : Type} (x : α) : Bank α := Vector.replicate 255 x

/-- The number of set bits of an array of bits, `popcount` (R8). -/
def Bank.popcount (b : Bank Bool) : Nat := ((List.range 255).filter fun i => Bank.get b i).length

/-- Every bit of the array is clear. -/
def Bank.allClear (b : Bank Bool) : Bool := (List.range 255).all fun i => !(Bank.get b i)

/-! ## Outputs (spec/00_scope.md R8 `emit`; spec/20_memory.md R51) -/

/-- `emit P(x)`: one transaction appended. -/
def State.emit (s : State) (o : Output) : State := { s with emitted := s.emitted ++ [o] }

/-- Several transactions, in the order given. -/
def State.emitAll (s : State) (os : List Output) : State := { s with emitted := s.emitted ++ os }

/-- `emit RSP([OK] ++ results)` (spec/30_encoding.md R71). -/
def State.respond (s : State) (results : Bytes) : State := s.emit (.rsp (Status.ok.code :: results))

/-! ## Taking an error (spec/60_exceptions.md R220). There is no handler and nothing to return from (R221, R222). -/

/-- `raise E` in a command: the one RSP carries the code alone and no state changes (spec/30_encoding.md R71,
spec/60_exceptions.md R220(a)). -/
def State.raise (s : State) (e : Status) : State := s.emit (.rsp [e.code])

/-- A datagram dropped as MALFORMED_*: counted, nothing emitted (R211 to R213, R220(b)). -/
def State.dropMalformed (s : State) : State := { s with cntMalformed := satInc s.cntMalformed }

/-- A datagram dropped as INTEGRITY: counted, nothing emitted (R215, R220(b)). -/
def State.dropIntegrity (s : State) : State := { s with cntIntegrity := satInc s.cntIntegrity }

/-- A datagram dropped as BAD_META: counted, nothing emitted (R216, R220(b)). -/
def State.dropBadmeta (s : State) : State := { s with cntBadmeta := satInc s.cntBadmeta }

/-! ## The reassembly buffer (spec/43_fragmentation.md R144 to R149) -/

/-- The fragment starts a new message: the buffer is inactive or its tag differs (R145). -/
def State.tagDiffers (s : State) (key total : Byte) : Bool :=
  !s.rbActive || decide (s.rbKey ≠ key) || decide (s.rbTotal ≠ total)

/-- Tagging: a fragment with another tag, or none in progress, clears the buffer and sets the tag (R145). -/
def State.retag (s : State) (key total : Byte) : State :=
  if s.tagDiffers key total then
    { s with rbValid := Bank.fill false, rbActive := true, rbKey := key, rbTotal := total }
  else s

/-- Insertion: the payload stored whole in slot `fid` with its length, the slot valid (R147). -/
def State.insertFragment (s : State) (fid : Byte) (payload : Bytes) : State :=
  { s with
    rbData := Bank.put s.rbData fid.toNat (memWrite (Bank.get s.rbData fid.toNat) 0 payload)
    rbLen := Bank.put s.rbLen fid.toNat (len16 payload)
    rbValid := Bank.put s.rbValid fid.toNat true }

/-- Every slot 0 to `rb_total - 1` is valid (R148). -/
def State.rbComplete (s : State) : Bool :=
  (List.range s.rbTotal.toNat).all fun i => Bank.get s.rbValid i

/-- The valid bytes of slot i. -/
def State.rbSlot (s : State) (i : Nat) : Bytes :=
  memRead (Bank.get s.rbData i) 0 (Bank.get s.rbLen i).toNat

/-- The slots' valid bytes concatenated in ascending slot order (R148). -/
def State.rbMessage (s : State) : Bytes := (List.range s.rbTotal.toNat).flatMap s.rbSlot

/-- Destruction of the buffer (R149): tag, lengths and bytes are left as they are. -/
def State.destroyRb (s : State) : State := { s with rbActive := false, rbValid := Bank.fill false }

/-- `ACCEPT` after its metadata check (R144): tag, insert, complete. The message when this fragment completes one. -/
def State.accept (s : State) (key fid total : Byte) (payload : Bytes) : State × Option Bytes :=
  let t := (s.retag key total).insertFragment fid payload
  if t.rbComplete then (t.destroyRb, some t.rbMessage) else (t, none)

/-! ## Taking the next event (spec/20_memory.md R44, R48; spec/60_exceptions.md R226) -/

/-- The next event to process and what stays presented, the rest of its batch first; none when nothing is presented.
RESET dominates the stimuli presented with it (R226, log 2). -/
def nextEvent : List (List Event) → Option (Event × List (List Event))
  | [] => none
  | [] :: later => nextEvent later
  | (e :: rest) :: later =>
    if (e :: rest).contains .reset then some (.reset, (e :: rest).erase .reset :: later)
    else some (e, rest :: later)

/-- A RESET, once applied, discards what was presented with it and is not yet processed (R226, log 2). -/
def discardBatch (presented : List (List Event)) : List (List Event) := presented.tail

/-- The dispatcher's refusal of a CMD transaction as a status (spec/45_system.md R200). -/
def cmdErrorStatus : CmdError → Status
  | .illegalCmd => .illegalCmd
  | .badOperand => .badOperand

end Sys2Proof.Machine
end

