-- ==== Sys2Proof/Machine/Frag.lean ====
section
/-! DEFINITION. The fragmentation manager (spec/43_fragmentation.md): `SPLIT` and the commands FRG.SHOULD, FRG.SPLIT,
FRG.ACCEPT and FRG.DROP. The reassembly buffer's operations are in Machine/Ops.lean. -/

namespace Sys2Proof.Machine

/-- `T <- max(1, ceil(len / FS))` (R142, spec/90_conflicts.md C8). -/
def splitCount (p : Params) (msg : Bytes) : Nat := max 1 (fragsNeeded p msg.length)

/-- `payload_i = msg[i*FS .. min((i+1)*FS, len(msg)))` (R142). -/
def splitPayload (p : Params) (msg : Bytes) (i : Nat) : Bytes :=
  slice msg (i * p.fragmentSize.toNat) p.fragmentSize.toNat

/-- The payloads of `SPLIT(msg)` in ascending id order (R142). -/
def splitPayloads (p : Params) (msg : Bytes) : List Bytes :=
  (List.range (splitCount p msg)).map (splitPayload p msg)

/-- A payload with its length before it, as FRG.SPLIT returns it (R142). -/
def withLength (payload : Bytes) : Bytes := be16 (len16 payload) ++ payload

/-- FRG.SHOULD (R141): the comparison is strict. -/
def execFrgShould (mlen : Word) (s : State) : Host.Outcome State Fault Refusal :=
  .next (s.respond [boolByte (should s.params mlen.toNat)])

/-- FRG.SPLIT (R142): `FRAG_THRESHOLD` plays no part. -/
def execFrgSplit (msg : Bytes) (s : State) : Host.Outcome State Fault Refusal :=
  if maxFrags < splitCount s.params msg then .next (s.raise .tooLong)
  else .next (s.respond
    (BitVec.ofNat 8 (splitCount s.params msg) :: (splitPayloads s.params msg).flatMap withLength))

/-- The RSP of FRG.ACCEPT: `[OK, 0x01] ++ msg` or `[OK, 0x00]` (R144). -/
def acceptResult : Option Bytes → Bytes
  | some msg => 0x01#8 :: msg
  | none => [0x00#8]

/-- FRG.ACCEPT (R144): `BAD_OPERAND` before `BAD_META` (spec/60_exceptions.md R227). -/
def execFrgAccept (key fid total : Byte) (payload : Bytes) (s : State) : Host.Outcome State Fault Refusal :=
  if maxPayload s.params < payload.length then .next (s.raise .badOperand)
  else if badMeta fid total then .next (s.raise .badMeta)
  else .next ((s.accept key fid total payload).1.respond (acceptResult (s.accept key fid total payload).2))

/-- FRG.DROP (R150): succeeds whether or not a message is being reassembled. -/
def execFrgDrop (s : State) : Host.Outcome State Fault Refusal := .next (s.destroyRb.respond [])

end Sys2Proof.Machine
end

