-- ==== Sys2Proof/Machine/Crc.lean ====
section
/-! DEFINITION. The CRC-16 unit (spec/40_crc.md): the function `CRC16` and the commands CRC.COMPUTE and CRC.VERIFY. -/

namespace Sys2Proof.Machine

/-- One bit of R92: the test of bit 15 uses the value before the shift. -/
def crcBit (poly r : Half) : Half :=
  if r.msb then (r <<< 1) ^^^ poly else r <<< 1

/-- `n` bits of R92. -/
def crcBits (poly : Half) : Nat → Half → Half
  | 0, r => r
  | n + 1, r => crcBits poly n (crcBit poly r)

/-- One input byte: exclusive or into the high byte, then eight bits (R92). -/
def crcByte (poly r : Half) (b : Byte) : Half := crcBits poly 8 (r ^^^ (b.setWidth 16 <<< 8))

/-- The register after a byte string, from a given register. -/
def crcFrom (poly : Half) (r : Half) (data : Bytes) : Half := data.foldl (crcByte poly) r

/-- `CRC16(data)`: the initial register 0xFFFF (R91), the bytes left to right, no further step (R93). -/
def crc16 (p : Params) (data : Bytes) : Half := crcFrom p.crcPoly 0xFFFF#16 data

/-- CRC.COMPUTE (R94). -/
def execCrcCompute (data : Bytes) (s : State) : Host.Outcome State Fault Refusal :=
  if maxFrame s.params < data.length then .next (s.raise .badOperand)
  else .next (s.respond (be16 (crc16 s.params data)))

/-- CRC.VERIFY (R95): a mismatch is a result, not an error. -/
def execCrcVerify (claimed : Half) (data : Bytes) (s : State) : Host.Outcome State Fault Refusal :=
  if maxFrame s.params < data.length then .next (s.raise .badOperand)
  else .next (s.respond [boolByte (decide (crc16 s.params data = claimed))])

end Sys2Proof.Machine
end

