-- ==== Sys2Proof/Machine/Hamming.lean ====
section
/-! DEFINITION. The Hamming(7,4) unit and the FEC byte stream (spec/41_hamming.md): `HENC`, `HDEC`, `FECENC`, `FECDEC` and
the commands HAM.ENC, HAM.DEC, FEC.ENC, FEC.DEC. -/

namespace Sys2Proof.Machine

/-- `HENC` (R101), positions in the order p1 p2 d0 p3 d1 d2 d3, p1 the most significant (spec/30_encoding.md R68). -/
def henc (nib : BitVec 4) : BitVec 7 :=
  let d0 := nib.extractLsb' 3 1
  let d1 := nib.extractLsb' 2 1
  let d2 := nib.extractLsb' 1 1
  let d3 := nib.extractLsb' 0 1
  let p1 := d0 ^^^ d1 ^^^ d3
  let p2 := d0 ^^^ d2 ^^^ d3
  let p3 := d1 ^^^ d2 ^^^ d3
  p1 ++ p2 ++ d0 ++ p3 ++ d1 ++ d2 ++ d3

/-- The syndrome index `(s3<<2)|(s2<<1)|s1` of a received word, 0 to 7 (R103). -/
def syndrome (cw : BitVec 7) : BitVec 3 :=
  let r1 := cw.extractLsb' 6 1
  let r2 := cw.extractLsb' 5 1
  let r3 := cw.extractLsb' 4 1
  let r4 := cw.extractLsb' 3 1
  let r5 := cw.extractLsb' 2 1
  let r6 := cw.extractLsb' 1 1
  let r7 := cw.extractLsb' 0 1
  let s1 := r1 ^^^ r3 ^^^ r5 ^^^ r7
  let s2 := r2 ^^^ r3 ^^^ r6 ^^^ r7
  let s3 := r4 ^^^ r5 ^^^ r6 ^^^ r7
  s3 ++ s2 ++ s1

/-- The word with the bit at position `pos` flipped, positions 1 to 7 from the left; 0 flips none (R103). -/
def flipPos (cw : BitVec 7) (pos : BitVec 3) : BitVec 7 :=
  if pos = 0#3 then cw else cw ^^^ (1#7 <<< (7 - pos.toNat))

/-- The data bits d0 d1 d2 d3 from their fixed positions (R103). -/
def dataBits (cw : BitVec 7) : BitVec 4 :=
  cw.extractLsb' 4 1 ++ cw.extractLsb' 2 1 ++ cw.extractLsb' 1 1 ++ cw.extractLsb' 0 1

/-- `HDEC`: the nibble after the correction the syndrome names, and the syndrome (R103). It never fails (R113). -/
def hdec (cw : BitVec 7) : BitVec 4 × BitVec 3 := (dataBits (flipPos cw (syndrome cw)), syndrome cw)

/-- The coded bits of one byte: high nibble first (R105). -/
def fecBits (b : Byte) : List Bool :=
  bitsMsb (henc (b.extractLsb' 4 4)) ++ bitsMsb (henc (b.extractLsb' 0 4))

/-- `FECENC` (R105): codewords packed back to back, zero-padded to a byte boundary. -/
def fecEncode (data : Bytes) : Bytes := cutBytes (padToBytes (data.flatMap fecBits))

/-- The codeword made of the first seven bits of a stream, the first most significant (R107). -/
def codewordOf (bits : List Bool) : BitVec 7 := BitVec.ofNat 7 (natOfBits (bits.take 7))

/-- The first `n` bytes of a stream of codewords, two codewords a byte, high nibble first (R107). -/
def fecDecodeBits : Nat → List Bool → Bytes
  | 0, _ => []
  | n + 1, bits =>
    ((hdec (codewordOf bits)).1 ++ (hdec (codewordOf (bits.drop 7))).1 : BitVec 8) ::
      fecDecodeBits n (bits.drop 14)

/-- `FECDEC(img, L)` (R107): the first 2*L codewords; no bit after them is looked at. -/
def fecDecode (img : Bytes) (len : Nat) : Bytes := fecDecodeBits len (bitStream img)

/-- HAM.ENC (R101). -/
def execHamEnc (nib : Byte) (s : State) : Host.Outcome State Fault Refusal :=
  if 15#8 < nib then .next (s.raise .badOperand)
  else .next (s.respond [(henc (nib.setWidth 4)).setWidth 8])

/-- HAM.DEC (R103). -/
def execHamDec (cw : Byte) (s : State) : Host.Outcome State Fault Refusal :=
  if 127#8 < cw then .next (s.raise .badOperand)
  else .next (s.respond [(hdec (cw.setWidth 7)).1.setWidth 8, (hdec (cw.setWidth 7)).2.setWidth 8])

/-- FEC.ENC (R105). -/
def execFecEnc (data : Bytes) (s : State) : Host.Outcome State Fault Refusal :=
  if maxPayload s.params < data.length then .next (s.raise .badOperand)
  else .next (s.respond (fecEncode data))

/-- FEC.DEC (R107): both range checks answer the same code (spec/60_exceptions.md R227). -/
def execFecDec (len : Half) (img : Bytes) (s : State) : Host.Outcome State Fault Refusal :=
  if maxPayload s.params < len.toNat ∨ img.length ≠ fecLen len.toNat then .next (s.raise .badOperand)
  else .next (s.respond (fecDecode img len.toNat))

end Sys2Proof.Machine
end

