-- ==== Sys2Proof/Machine/Frame.lean ====
section
/-! DEFINITION. The frame codec (spec/42_frame.md): `FRMENC`, `FRMDEC` and the commands FRM.ENC and FRM.DEC. -/

namespace Sys2Proof.Machine

/-- A correctly decoded frame, the header bytes as received (R124, R130). -/
structure Frame where
  seq : Byte
  fid : Byte
  total : Byte
  payload : Bytes
deriving DecidableEq, Repr

/-- The four errors of `FRMDEC` (R124). An error carries no field of the frame (R134). -/
inductive FrameError where
  | short
  | oversize
  | length
  | integrity
deriving DecidableEq, Repr

/-- The status of a decoding error (spec/60_exceptions.md R210). -/
def frameErrorStatus : FrameError → Status
  | .short => .malformedShort
  | .oversize => .malformedOversize
  | .length => .malformedLength
  | .integrity => .integrity

/-- The bytes the CRC covers: header, FEC image, original length (R121, spec/30_encoding.md R66). -/
def frameBody (seq fid total : Byte) (payload : Bytes) : Bytes :=
  [seq, fid, total] ++ fecEncode payload ++ be16 (len16 payload)

/-- `FRMENC` (R121). -/
def frameEncode (p : Params) (seq fid total : Byte) (payload : Bytes) : Bytes :=
  frameBody seq fid total payload ++ be16 (crc16 p (frameBody seq fid total payload))

/-- The byte at an index of a byte string; 0 beyond its end, which the length checks exclude. -/
def byteAt (f : Bytes) (i : Nat) : Byte := f.getD i 0x00#8

/-- The 16-bit field at an index, big-endian (spec/20_memory.md R40). -/
def halfAt (f : Bytes) (i : Nat) : Half := unBe16 (byteAt f i) (byteAt f (i + 1))

/-- `FRMDEC` (R125): the checks in the rule's order, the first that fails deciding; then FEC decoding (R130). -/
def frameDecode (p : Params) (f : Bytes) : Except FrameError Frame :=
  if f.length < minFrame then .error .short
  else if maxFrame p < f.length then .error .oversize
  else if crc16 p (f.take (f.length - 2)) ≠ halfAt f (f.length - 2) then .error .integrity
  else if f.length - minFrame ≠ fecLen (halfAt f (f.length - 4)).toNat then .error .length
  else .ok
    { seq := byteAt f 0
      fid := byteAt f 1
      total := byteAt f 2
      payload := fecDecode (slice f 3 (f.length - minFrame)) (halfAt f (f.length - 4)).toNat }

/-- FRM.ENC (R121): the header bytes are not checked (spec/30_encoding.md R76). -/
def execFrmEnc (seq fid total : Byte) (payload : Bytes) (s : State) : Host.Outcome State Fault Refusal :=
  if maxPayload s.params < payload.length then .next (s.raise .badOperand)
  else .next (s.respond (frameEncode s.params seq fid total payload))

/-- FRM.DEC (R125): pure; the drop counters belong to RX alone (spec/10_state.md R19). -/
def execFrmDec (f : Bytes) (s : State) : Host.Outcome State Fault Refusal :=
  match frameDecode s.params f with
  | .ok r => .next (s.respond ([r.seq, r.fid, r.total] ++ r.payload))
  | .error e => .next (s.raise (frameErrorStatus e))

end Sys2Proof.Machine
end

