-- ==== Sys2Proof/Machine/Arq.lean ====
section
/-! DEFINITION. The ARQ sequencer (spec/44_arq.md): ARQ.SEND, RX and TICK. -/

namespace Sys2Proof.Machine

/-! ## Send side -/

/-- `P(i)`, the payload of fragment i of the message in flight (R165). -/
def State.txPayload (s : State) (i : Nat) : Bytes :=
  if s.txTotal = 1#8 then memRead s.txMsg 0 s.txLen.toNat
  else memRead s.txMsg (i * s.params.fragmentSize.toNat)
    (min s.params.fragmentSize.toNat (s.txLen.toNat - i * s.params.fragmentSize.toNat))

/-- `TXFRAG(i)`, the frame of fragment i of the message in flight (R165). -/
def State.txFrame (s : State) (i : Nat) : Bytes :=
  frameEncode s.params (s.sendSeq.setWidth 8) (BitVec.ofNat 8 i) s.txTotal (s.txPayload i)

/-- `TX` of the fragments 0 to `tx_total - 1` that satisfy a test, ascending (R164, R170). -/
def State.txBurst (s : State) (which : Nat → Bool) : List Output :=
  ((List.range s.txTotal.toNat).filter which).map fun i => .tx (s.txFrame i)

/-- `tx_total` of a message: `ceil(len / FRAGMENT_SIZE)` if it is to be fragmented, else 1 (R164). -/
def sendTotal (p : Params) (msg : Bytes) : Nat :=
  if should p msg.length then fragsNeeded p msg.length else 1

/-- The Pending-Send Set created: the message stored, the count fixed, every fragment pending with counter 0, the state
`PENDING` (R164, spec/10_state.md R20). -/
def State.loadSend (s : State) (msg : Bytes) : State :=
  { s with
    txMsg := memWrite s.txMsg 0 msg
    txLen := len32 msg
    txTotal := BitVec.ofNat 8 (sendTotal s.params msg)
    pending := Bank.tabulate fun i => decide (i < sendTotal s.params msg)
    retryCnt := Bank.fill 0#8
    arqState := .pending }

/-- The end of a round's transmission: the timer loaded (R164, R170). -/
def State.loadTimer (s : State) : State := { s with ackTimer := s.params.ackTimeout }

/-- Starting a send: the first round's frames in ascending id order, then the timer (R164). -/
def State.startSend (s : State) (msg : Bytes) : State :=
  ((s.loadSend msg).emitAll ((s.loadSend msg).txBurst fun _ => true)).loadTimer

/-- ARQ.SEND (R162): `BUSY`, then `TOO_LONG` (spec/60_exceptions.md R227), then the send. -/
def execArqSend (msg : Bytes) (s : State) : Host.Outcome State Fault Refusal :=
  if s.arqState.inFlight then .next (s.raise .busy)
  else if should s.params msg.length && decide (maxFrags < fragsNeeded s.params msg.length) then
    .next (s.raise .tooLong)
  else .next ((s.startSend msg).respond [])

/-- Success: the pending set is empty, the sequence bit toggles (R168). -/
def State.sendSucceeds (s : State) : State :=
  { s with
    arqState := .acked
    sendSeq := s.sendSeq ^^^ 1#1
    ackTimer := 0#32
    retryCnt := Bank.fill 0#8
    emitted := s.emitted ++ [.evt sendDone Status.ok.code] }

/-- Failure: the retry bookkeeping released, the sequence bit unchanged (R171). -/
def State.sendFails (s : State) : State :=
  { s with
    arqState := .failed
    pending := Bank.fill false
    retryCnt := Bank.fill 0#8
    ackTimer := 0#32
    emitted := s.emitted ++ [.evt sendDone Status.retryExhausted.code] }

/-- Which acknowledgments count (R166). `total_fragments` is not looked at. -/
def State.ackCounts (s : State) (seq fid : Byte) : Bool :=
  s.arqState.inFlight && decide (seq = s.sendSeq.setWidth 8) && decide (fid < s.txTotal) &&
    Bank.get s.pending fid.toNat

/-- Fragment `fid` taken out of the pending set (R167). -/
def State.clearPending (s : State) (fid : Byte) : State :=
  { s with
    pending := Bank.put s.pending fid.toNat false
    retryCnt := Bank.put s.retryCnt fid.toNat 0#8 }

/-- Applying an acknowledgment that counts; the timer is not touched (R167). -/
def State.applyAck (s : State) (fid : Byte) : State :=
  if (s.clearPending fid).pending.allClear then (s.clearPending fid).sendSucceeds
  else { s.clearPending fid with arqState := .partiallyAcked }

/-- The counters of the fragments still pending incremented (R170). -/
def State.bumpRetries (s : State) : State :=
  { s with
    retryCnt := Bank.tabulate fun i =>
      if decide (i < s.txTotal.toNat) && Bank.get s.pending i then Bank.get s.retryCnt i + 1#8
      else Bank.get s.retryCnt i }

/-- A pending fragment's counter has reached the ceiling (R170). -/
def State.ceilingReached (s : State) : Bool :=
  (List.range 255).any fun i => Bank.get s.pending i && decide (s.params.maxRetry ≤ Bank.get s.retryCnt i)

/-- The timeout of a round (R170): increment, ceiling test, then retransmission of what is still pending and below the
ceiling (the skip clause is kept although it never fires, R179). -/
def State.timeout (s : State) : State :=
  if s.bumpRetries.ceilingReached then s.bumpRetries.sendFails
  else
    (s.bumpRetries.emitAll (s.bumpRetries.txBurst fun i =>
      Bank.get s.bumpRetries.pending i && decide (Bank.get s.bumpRetries.retryCnt i < s.params.maxRetry))).loadTimer

/-- TICK (R169). -/
def execTick (s : State) : Host.Outcome State Fault Refusal :=
  if s.arqState.inFlight then
    if 1#32 < s.ackTimer then .next { s with ackTimer := s.ackTimer - 1#32 } else .next s.timeout
  else .next s

/-! ## Receive side -/

/-- The acknowledgment of a data frame: the three header bytes copied (R175). -/
def State.ackFrame (s : State) (fr : Frame) : Bytes := frameEncode s.params fr.seq fr.fid fr.total ackMarker

/-- A genuine new delivery: DLV, then the expected bit toggles (R176). -/
def State.deliver (s : State) (msg : Bytes) : State :=
  { s with expectedRecvSeq := s.expectedRecvSeq ^^^ 1#1, emitted := s.emitted ++ [.dlv msg] }

/-- The new-message path (R176). -/
def State.newMessage (s : State) (fr : Frame) : State :=
  match s.accept fr.seq fr.fid fr.total fr.payload with
  | (t, some msg) => t.deliver msg
  | (t, none) => t

/-- A data frame with good metadata: acknowledged first (R175), then new (R176) or duplicate (R177). -/
def State.receiveData (s : State) (fr : Frame) : State :=
  if fr.seq = s.expectedRecvSeq.setWidth 8 then (s.emit (.tx (s.ackFrame fr))).newMessage fr
  else s.emit (.tx (s.ackFrame fr))

/-- A correctly decoded frame: the marker test, then the metadata test, then the data (R173, spec/60_exceptions.md R227). -/
def State.receiveFrame (s : State) (fr : Frame) : State :=
  if fr.payload = ackMarker then (if s.ackCounts fr.seq fr.fid then s.applyAck fr.fid else s)
  else if badMeta fr.fid fr.total then s.dropBadmeta
  else s.receiveData fr

/-- RX (R173): the whole receive path, total over all byte strings. -/
def execRx (f : Bytes) (s : State) : Host.Outcome State Fault Refusal :=
  match frameDecode s.params f with
  | .error .short => .next s.dropMalformed
  | .error .oversize => .next s.dropMalformed
  | .error .length => .next s.dropMalformed
  | .error .integrity => .next s.dropIntegrity
  | .ok fr => .next (s.receiveFrame fr)

end Sys2Proof.Machine
end

