-- ==== Sys2Proof/Machine/System.lean ====
section
/-! DEFINITION. STAT.RD with the status register file (spec/45_system.md R201, spec/10_state.md R27) and RESET
(spec/70_reset_and_hazards.md R240). -/

namespace Sys2Proof.Machine

/-- `RETRY_CNT`: the largest counter of a pending fragment, 0 if none is pending (spec/10_state.md R27). -/
def State.maxPendingRetry (s : State) : Nat :=
  (List.range 255).foldl (fun m i => if Bank.get s.pending i then max m (Bank.get s.retryCnt i).toNat else m) 0

/-- `RB_TAG`: `rb_total` in bits 7:0, `rb_key` in bits 15:8, `rb_active` in bit 16 (spec/10_state.md R27). -/
def State.rbTag (s : State) : Word := (0#15 ++ BitVec.ofBool s.rbActive ++ s.rbKey ++ s.rbTotal : BitVec 32)

/-- The content column of the status file, zero-extended to 32 bits; none for a reserved index (spec/10_state.md R27). -/
def State.statValue (s : State) (idx : Byte) : Option Word :=
  match idx with
  | 0x00#8 => some (s.arqState.code.setWidth 32)
  | 0x01#8 => some ((s.expectedRecvSeq ++ s.sendSeq : BitVec 2).setWidth 32)
  | 0x02#8 => some (BitVec.ofNat 32 s.pending.popcount)
  | 0x03#8 => some (s.txTotal.setWidth 32)
  | 0x04#8 => some (BitVec.ofNat 32 s.maxPendingRetry)
  | 0x05#8 => some s.ackTimer
  | 0x06#8 => some s.rbTag
  | 0x07#8 => some (BitVec.ofNat 32 s.rbValid.popcount)
  | 0x08#8 => some (s.cntMalformed.setWidth 32)
  | 0x09#8 => some (s.cntIntegrity.setWidth 32)
  | 0x0A#8 => some (s.cntBadmeta.setWidth 32)
  | 0x10#8 => some (s.params.crcPoly.setWidth 32)
  | 0x11#8 => some (s.params.fragmentSize.setWidth 32)
  | 0x12#8 => some (s.params.fragThreshold.setWidth 32)
  | 0x13#8 => some s.params.ackTimeout
  | 0x14#8 => some (s.params.maxRetry.setWidth 32)
  | _ => none

/-- STAT.RD (spec/45_system.md R201): reading has no side effect. -/
def execStatRd (idx : Byte) (s : State) : Host.Outcome State Fault Refusal :=
  match s.statValue idx with
  | some v => .next (s.respond (be32 v))
  | none => .next (s.raise .badOperand)

/-- RESET (spec/70_reset_and_hazards.md R240): every element at its reset value, the parameters untouched, nothing emitted.
What was emitted before stands; the rest of the batch presented with it is discarded (spec/60_exceptions.md R226). -/
def execReset (s : State) : Host.Outcome State Fault Refusal :=
  .next { State.resetOf s.params with presented := discardBatch s.presented, emitted := s.emitted }

end Sys2Proof.Machine
end

