-- ==== Sys2Proof/Machine/Dispatch.lean ====
section
/-! DEFINITION. The meaning of every instruction, one arm per constructor. -/

namespace Sys2Proof.Machine

def exec (i : Instr) (s : State) : Host.Outcome State Fault Refusal :=
  match i with
  | .crcCompute data => Sys2Proof.Machine.execCrcCompute data s
  | .crcVerify claimed data => Sys2Proof.Machine.execCrcVerify claimed data s
  | .hamEnc nib => Sys2Proof.Machine.execHamEnc nib s
  | .hamDec cw => Sys2Proof.Machine.execHamDec cw s
  | .fecEnc data => Sys2Proof.Machine.execFecEnc data s
  | .fecDec len img => Sys2Proof.Machine.execFecDec len img s
  | .frmEnc seq fid total payload => Sys2Proof.Machine.execFrmEnc seq fid total payload s
  | .frmDec f => Sys2Proof.Machine.execFrmDec f s
  | .frgShould mlen => Sys2Proof.Machine.execFrgShould mlen s
  | .frgSplit msg => Sys2Proof.Machine.execFrgSplit msg s
  | .frgAccept key fid total payload => Sys2Proof.Machine.execFrgAccept key fid total payload s
  | .frgDrop => Sys2Proof.Machine.execFrgDrop s
  | .arqSend msg => Sys2Proof.Machine.execArqSend msg s
  | .statRd idx => Sys2Proof.Machine.execStatRd idx s
  | .rx f => Sys2Proof.Machine.execRx f s
  | .tick => Sys2Proof.Machine.execTick s
  | .reset => Sys2Proof.Machine.execReset s

end Sys2Proof.Machine
end

