-- ==== Sys2Proof/Machine/Step.lean ====
section
/-! DEFINITION. One step: one event in, to completion (spec/20_memory.md R44). -/

namespace Sys2Proof.Machine

/-- One event processed. The next event is what the environment has presented next; a CMD transaction the dispatcher
refuses is answered by its one RSP (spec/45_system.md R200); with nothing presented the block waits, which is no change
(R205, log 3). -/
def step (s : State) : Host.Outcome State Fault Refusal :=
  match nextEvent s.presented with
  | none => .next s
  | some (e, rest) =>
    match decode e with
    | .ok i => exec i { s with presented := rest }
    | .error r => .next (({ s with presented := rest } : State).raise (cmdErrorStatus r))

/-- The state with the transaction of the table's bits presented before everything else, in a batch of its own, so that
the very next step processes it (log 11). Bits that stand for no transaction leave the state as it is. -/
def State.withFetchWord (s : State) (nbits w : Nat) : State :=
  match tableEvent nbits w with
  | none => s
  | some e => { s with presented := [e] :: s.presented }

end Sys2Proof.Machine
end

