-- ==== Sys2Proof/Safety.lean ====
section
/-! DEFINITION. The terms the claims use: the invariant of the state, what counts as one side of the block being left
alone, runs of operations, kinds of outputs, and alterations of a byte string. -/

namespace Sys2Proof.Machine

/-! ## The invariant -/

/-- Every buffer is in canonical form. -/
def State.BuffersWf (s : State) : Prop :=
  s.txMsg.wf ∧ ∀ i < 255, (Bank.get s.rbData i).wf

/-- The invariants of the reassembly buffer (spec/10_state.md R24). `rb_total <= 255` holds by its width. -/
def State.RbInv (s : State) : Prop :=
  (s.rbActive = false → ∀ i < 255, Bank.get s.rbValid i = false) ∧
  (s.rbActive = true →
    1 ≤ s.rbTotal.toNat ∧
    (∀ i < 255, s.rbTotal.toNat ≤ i → Bank.get s.rbValid i = false) ∧
    (∃ i < 255, Bank.get s.rbValid i = true) ∧
    (∃ i < s.rbTotal.toNat, Bank.get s.rbValid i = false)) ∧
  (∀ i < 255, Bank.get s.rbValid i = true → (Bank.get s.rbLen i).toNat ≤ maxPayload s.params)

/-- The Pending-Send Set with no send in flight: everything released, the timer 0 (spec/10_state.md R15, R20;
spec/44_arq.md R168, R171). -/
def State.SendReleased (s : State) : Prop :=
  (∀ i < 255, Bank.get s.pending i = false) ∧ (∀ i < 255, Bank.get s.retryCnt i = 0#8) ∧ s.ackTimer = 0#32

/-- The Pending-Send Set with a send in flight: the count is the message's (spec/44_arq.md R164), only ids below it are
pending and at least one is (spec/10_state.md R20), the state says whether all of them still are (R13), every pending
counter has one value, below the ceiling, and every other is 0 (R21), and the timer is running (R15). -/
def State.SendRunning (s : State) : Prop :=
  s.txTotal.toNat = (if should s.params s.txLen.toNat then fragsNeeded s.params s.txLen.toNat else 1) ∧
  (∀ i < 255, s.txTotal.toNat ≤ i → Bank.get s.pending i = false) ∧
  (∃ i < 255, Bank.get s.pending i = true) ∧
  (s.arqState = .pending ↔ ∀ i < s.txTotal.toNat, Bank.get s.pending i = true) ∧
  (∃ n : Nat, n < s.params.maxRetry.toNat ∧
    ∀ i < 255, (Bank.get s.retryCnt i).toNat = if Bank.get s.pending i then n else 0) ∧
  1 ≤ s.ackTimer.toNat ∧ s.ackTimer.toNat ≤ s.params.ackTimeout.toNat

/-- The invariants of the send side. -/
def State.SendInv (s : State) : Prop :=
  s.txLen.toNat ≤ maxMsg s.params ∧
  (s.arqState.inFlight = false → s.SendReleased) ∧
  (s.arqState.inFlight = true → s.SendRunning)

/-- The invariant every event keeps, for an instance whose parameters are within spec/00_scope.md R2. -/
def State.Inv (s : State) : Prop :=
  s.params.Valid ∧ s.BuffersWf ∧ s.RbInv ∧ s.SendInv

/-! ## Answers, reset, storing a fragment -/

/-- One RSP transaction emitted, nothing else changed (spec/30_encoding.md R71). -/
def State.answered (s : State) (r : Bytes) : State := { s with emitted := s.emitted ++ [.rsp r] }

/-- Every element whose reset value spec/10_state.md R30 gives holds that value. -/
def State.AtReset (t : State) : Prop :=
  t.sendSeq = 0#1 ∧ t.expectedRecvSeq = 0#1 ∧ t.arqState = .idle ∧ t.txTotal = 0#8 ∧ t.txLen = 0#32 ∧
  t.ackTimer = 0#32 ∧ (∀ i < 255, Bank.get t.pending i = false) ∧ (∀ i < 255, Bank.get t.retryCnt i = 0#8) ∧
  t.rbActive = false ∧ t.rbKey = 0#8 ∧ t.rbTotal = 0#8 ∧ (∀ i < 255, Bank.get t.rbValid i = false) ∧
  t.cntMalformed = 0#16 ∧ t.cntIntegrity = 0#16 ∧ t.cntBadmeta = 0#16

/-- Slot `i` is valid once a fragment is stored: it is the fragment's, or it was valid under the same tag
(spec/43_fragmentation.md R145, R147). -/
def validAfter (s : State) (key fid total : Byte) (i : Nat) : Bool :=
  decide (i = fid.toNat) ||
    (s.rbActive && decide (s.rbKey = key) && decide (s.rbTotal = total) && Bank.get s.rbValid i)

/-- The fragment completes its message (spec/43_fragmentation.md R148). -/
def Completes (s : State) (key fid total : Byte) : Prop :=
  ∀ i < total.toNat, validAfter s key fid total i = true

/-- The message a fragment completes: the other slots' valid bytes with the payload in its place, in ascending order
(spec/43_fragmentation.md R148). -/
def completedMessage (s : State) (fid total : Byte) (payload : Bytes) : Bytes :=
  (List.range total.toNat).flatMap fun i =>
    if i = fid.toNat then payload else memRead (Bank.get s.rbData i) 0 (Bank.get s.rbLen i).toNat

/-- The slots' lengths and bytes after a payload was stored in slot `fid`: the bytes of the payload from offset 0, and
every other byte of every slot as before (spec/43_fragmentation.md R147). -/
def StoredIn (s t : State) (fid : Byte) (payload : Bytes) : Prop :=
  (∀ i < 255, Bank.get t.rbLen i = if i = fid.toNat then len16 payload else Bank.get s.rbLen i) ∧
  (∀ i < 255, ∀ a, (Bank.get t.rbData i).read a =
    if i = fid.toNat ∧ a < payload.length then payload.getD a 0x00#8 else (Bank.get s.rbData i).read a)

/-- A state after a fragment was stored that completes nothing: `t` is `s` with the tag, the valid bits, the slot and
the outputs `outs` (spec/43_fragmentation.md R144 to R147). -/
def StoredOnly (s t : State) (key fid total : Byte) (payload : Bytes) (outs : List Output) : Prop :=
  t = { s with
    rbActive := true, rbKey := key, rbTotal := total, rbValid := t.rbValid, rbLen := t.rbLen
    rbData := t.rbData, emitted := s.emitted ++ outs } ∧
  (∀ i < 255, Bank.get t.rbValid i = validAfter s key fid total i) ∧ StoredIn s t fid payload

/-- A state after a fragment completed its message: the buffer is destroyed, its tag and bytes stay
(spec/43_fragmentation.md R148, R149); `recv` is the expected bit afterwards. -/
def StoredAndDestroyed (s t : State) (key fid total : Byte) (payload : Bytes) (recv : BitVec 1)
    (outs : List Output) : Prop :=
  t = { s with
    expectedRecvSeq := recv, rbActive := false, rbKey := key, rbTotal := total, rbValid := t.rbValid
    rbLen := t.rbLen, rbData := t.rbData, emitted := s.emitted ++ outs } ∧
  (∀ i < 255, Bank.get t.rbValid i = false) ∧ StoredIn s t fid payload

/-! ## The send side in the spec's terms -/

/-- `tx_total` of a message (spec/44_arq.md R164). -/
def totalOf (p : Params) (msg : Bytes) : Nat :=
  if p.fragThreshold.toNat < msg.length then ceilDiv msg.length p.fragmentSize.toNat else 1

/-- The payload of fragment i of a message (spec/44_arq.md R165). -/
def payloadOf (p : Params) (msg : Bytes) (i : Nat) : Bytes :=
  if totalOf p msg = 1 then msg else slice msg (i * p.fragmentSize.toNat) p.fragmentSize.toNat

/-- ARQ.SEND's `TOO_LONG` (spec/44_arq.md R162). -/
def TooLong (p : Params) (msg : Bytes) : Prop :=
  p.fragThreshold.toNat < msg.length ∧ 255 < ceilDiv msg.length p.fragmentSize.toNat

/-- A decoded frame is an acknowledgment that counts (spec/44_arq.md R166, spec/30_encoding.md R67). -/
def Counts (s : State) (fr : Frame) : Prop :=
  fr.payload = [0x41#8, 0x43#8, 0x4B#8] ∧ s.arqState.inFlight = true ∧ fr.seq = s.sendSeq.setWidth 8 ∧
  fr.fid < s.txTotal ∧ Bank.get s.pending fr.fid.toNat = true

/-- Some other id than `fid` is still pending. -/
def OthersPending (s : State) (fid : Byte) : Prop :=
  ∃ i < 255, i ≠ fid.toNat ∧ Bank.get s.pending i = true

/-- A decoded frame is a data frame with metadata a conforming sender produces (spec/44_arq.md R173, R174). -/
def GoodData (fr : Frame) : Prop :=
  fr.payload ≠ [0x41#8, 0x43#8, 0x4B#8] ∧ fr.total ≠ 0#8 ∧ fr.fid < fr.total

/-- The retry counter of fragment i after a timeout's increment (spec/44_arq.md R170). -/
def retryAfterTimeout (s : State) (i : Nat) : Byte :=
  if i < s.txTotal.toNat ∧ Bank.get s.pending i = true then Bank.get s.retryCnt i + 1#8 else Bank.get s.retryCnt i

/-- At this timeout a pending fragment's counter reaches the ceiling (spec/44_arq.md R170). -/
def ReachesCeiling (s : State) : Prop :=
  ∃ i < 255, Bank.get s.pending i = true ∧ s.params.maxRetry ≤ retryAfterTimeout s i

/-- The transition table of `arq_state` (spec/44_arq.md R172): `dest` is the state an operation leads to. -/
def ArqTransition (s : State) : Instr → ArqState → Prop
  | .arqSend msg, dest =>
    (s.arqState.inFlight = true → dest = s.arqState) ∧
    (s.arqState.inFlight = false → TooLong s.params msg → dest = s.arqState) ∧
    (s.arqState.inFlight = false → ¬ TooLong s.params msg → dest = .pending)
  | .rx f, dest =>
    (∀ fr, frameDecode s.params f = .ok fr → Counts s fr → OthersPending s fr.fid → dest = .partiallyAcked) ∧
    (∀ fr, frameDecode s.params f = .ok fr → Counts s fr → ¬ OthersPending s fr.fid → dest = .acked) ∧
    ((∀ fr, frameDecode s.params f = .ok fr → ¬ Counts s fr) → dest = s.arqState)
  | .tick, dest =>
    (s.arqState.inFlight = true → s.ackTimer ≤ 1#32 → ReachesCeiling s → dest = .failed) ∧
    (¬ (s.arqState.inFlight = true ∧ s.ackTimer ≤ 1#32 ∧ ReachesCeiling s) → dest = s.arqState)
  | .reset, dest => dest = .idle
  | .crcCompute _, dest => dest = s.arqState
  | .crcVerify _ _, dest => dest = s.arqState
  | .hamEnc _, dest => dest = s.arqState
  | .hamDec _, dest => dest = s.arqState
  | .fecEnc _, dest => dest = s.arqState
  | .fecDec _ _, dest => dest = s.arqState
  | .frmEnc _ _ _ _, dest => dest = s.arqState
  | .frmDec _, dest => dest = s.arqState
  | .frgShould _, dest => dest = s.arqState
  | .frgSplit _, dest => dest = s.arqState
  | .frgAccept _ _ _ _, dest => dest = s.arqState
  | .frgDrop, dest => dest = s.arqState
  | .statRd _, dest => dest = s.arqState

/-! ## One side left alone (spec/44_arq.md R182) -/

/-- The send side's elements. -/
def SameSendSide (s t : State) : Prop :=
  t.sendSeq = s.sendSeq ∧ t.arqState = s.arqState ∧ t.txTotal = s.txTotal ∧ t.txLen = s.txLen ∧
  t.ackTimer = s.ackTimer ∧ t.pending = s.pending ∧ t.retryCnt = s.retryCnt ∧ t.txMsg = s.txMsg

/-- The receive side's elements. -/
def SameRecvSide (s t : State) : Prop :=
  t.expectedRecvSeq = s.expectedRecvSeq ∧ t.rbActive = s.rbActive ∧ t.rbKey = s.rbKey ∧ t.rbTotal = s.rbTotal ∧
  t.rbValid = s.rbValid ∧ t.rbLen = s.rbLen ∧ t.rbData = s.rbData

/-- The drop counters. -/
def SameCounters (s t : State) : Prop :=
  t.cntMalformed = s.cntMalformed ∧ t.cntIntegrity = s.cntIntegrity ∧ t.cntBadmeta = s.cntBadmeta

/-- What no operation but RESET touches: the parameters, and what the environment has presented. -/
def SameSurroundings (s t : State) : Prop := t.params = s.params ∧ t.presented = s.presented

/-! ## Runs -/

/-- Operations one after another (spec/20_memory.md R48), stopping at the first that does not go on. -/
def execAll : List Instr → State → Host.Outcome State Fault Refusal
  | [], s => .next s
  | i :: is, s =>
    match exec i s with
    | .next t => execAll is t
    | .fault r => .fault r
    | .refused r => .refused r

/-! ## Outputs -/

/-- An RSP transaction. -/
def isRsp : Output → Bool
  | .rsp _ => true
  | .tx _ => false
  | .dlv _ => false
  | .evt _ _ => false

/-- The operations that arrive on the CMD port (spec/30_encoding.md R72). -/
def isCommand (i : Instr) : Bool := decide (i.opcode < 0x80#8)

/-! ## Alterations -/

/-- A byte string with stream bit `k` flipped (spec/00_scope.md R7). -/
def flipBit (s : Bytes) (k : Nat) : Bytes :=
  s.mapIdx fun j b => if j = k / 8 then b ^^^ (1#8 <<< (7 - k % 8)) else b

/-- The number of stream bits inside the span of codeword `m` in which two byte strings differ
(spec/41_hamming.md R109). -/
def spanErrors (a b : Bytes) (m : Nat) : Nat :=
  ((List.range 7).filter fun k => decide ((bitStream a)[7 * m + k]? ≠ (bitStream b)[7 * m + k]?)).length

end Sys2Proof.Machine
end

