-- ==== Sys2Proof/WellFormed.lean ====
section
/-! DEFINITION. Well-formed instructions: every operand within the range its row of spec/opcode_table.json states (the
causes of `BAD_OPERAND` by value, spec/60_exceptions.md R218, and of FRG.SPLIT's `TOO_LONG`, R219). The decoder accepts
the others too: the block answers them with a refusal code, which is their meaning. -/

namespace Sys2Proof

/-- The operand ranges of the instructions, for one instance. -/
def Instr.wellFormed (p : Params) : Instr → Bool
  | .crcCompute data => decide (data.length ≤ Machine.maxFrame p)
  | .crcVerify _ data => decide (data.length ≤ Machine.maxFrame p)
  | .hamEnc nib => decide (nib ≤ 15#8)
  | .hamDec cw => decide (cw ≤ 127#8)
  | .fecEnc data => decide (data.length ≤ Machine.maxPayload p)
  | .fecDec len img =>
    decide (len.toNat ≤ Machine.maxPayload p) && decide (img.length = Machine.fecLen len.toNat)
  | .frmEnc _ _ _ payload => decide (payload.length ≤ Machine.maxPayload p)
  | .frmDec _ => true
  | .frgShould _ => true
  | .frgSplit msg => decide (Machine.fragsNeeded p msg.length ≤ Machine.maxFrags)
  | .frgAccept _ _ _ payload => decide (payload.length ≤ Machine.maxPayload p)
  | .frgDrop => true
  | .arqSend _ => true
  | .statRd idx => Machine.statIndices.contains idx
  | .rx _ => true
  | .tick => true
  | .reset => true

end Sys2Proof
end

