-- ==== Sys2Proof/Certificates/Slice0/Obligations.lean ====
section
/-! DEFINITION. The statements for the provers. Each docstring names the rule of spec/ it formalises. -/

open Sys2Proof Sys2Proof.Machine

/-! ## Steps, events, decoding -/

/-- A step runs the decoded instruction (spec/20_memory.md R44): when the next event decodes to `i`, the step is `exec i`
on the state with that event taken off what is presented. -/
def Obligations.StepRunsTheDecodedEvent : Prop :=
  ∀ (s : State) (e : Event) (rest : List (List Event)) (i : Instr),
    nextEvent s.presented = some (e, rest) → decode e = .ok i →
      step s = exec i { s with presented := rest }

/-- The model's choices log 1 and log 3: batches are processed front to back, one stimulus a step, empty batches are
skipped, and with nothing presented a step changes nothing (spec/45_system.md R205: the waiting is not a state). -/
def Obligations.EventsAreTakenInTheOrderPresented : Prop :=
  (∀ (s : State), (∀ b ∈ s.presented, b = []) → step s = .next s) ∧
  (∀ (e : Event) (rest : List Event) (later : List (List Event)),
    Event.reset ∉ e :: rest → nextEvent ((e :: rest) :: later) = some (e, rest :: later)) ∧
  (∀ (later : List (List Event)), nextEvent ([] :: later) = nextEvent later)

/-- RESET dominates what is presented with it (spec/60_exceptions.md R226): the rest of its batch is discarded without a
response, what was emitted before stands, and what the environment presents later (the model's batches, log 2) stays. -/
def Obligations.ResetDominatesItsBatch : Prop :=
  ∀ (s : State) (b : List Event) (later : List (List Event)),
    s.presented = b :: later → Event.reset ∈ b →
      ∃ t, step s = .next t ∧ t.AtReset ∧ t.params = s.params ∧ t.emitted = s.emitted ∧ t.presented = later

/-- Illegal commands (spec/45_system.md R203, spec/30_encoding.md R74): the empty transaction and every opcode outside the
map, the event codes among them, is answered ILLEGAL_CMD (0x22); nothing else changes. -/
def Obligations.IllegalCommandsAreRefused : Prop :=
  ∀ (s : State) (c : Bytes) (rest : List (List Event)),
    nextEvent s.presented = some (.cmd c, rest) →
    (∀ op args, c = op :: args →
      op ∉ [0x01#8, 0x02#8, 0x10#8, 0x11#8, 0x12#8, 0x13#8, 0x20#8, 0x21#8, 0x30#8, 0x31#8, 0x32#8, 0x33#8,
            0x40#8, 0x41#8]) →
      step s = .next (({ s with presented := rest } : State).answered [0x22#8])

/-- A known opcode whose length does not fit its format (spec/45_system.md R202, spec/30_encoding.md R69, R70) is answered
BAD_OPERAND (0x23); nothing else changes. -/
def Obligations.WrongLengthsAreRefused : Prop :=
  ∀ (s : State) (op : Byte) (args : Bytes) (rest : List (List Event)),
    nextEvent s.presented = some (.cmd (op :: args), rest) →
    ((op = 0x33#8 ∧ args ≠ []) ∨
      (op ∈ [0x10#8, 0x11#8, 0x41#8] ∧ args.length ≠ 1) ∨
      (op = 0x30#8 ∧ args.length ≠ 4) ∨
      (op ∈ [0x02#8, 0x13#8] ∧ args.length < 2) ∨
      (op ∈ [0x20#8, 0x32#8] ∧ args.length < 3)) →
      step s = .next (({ s with presented := rest } : State).answered [0x23#8])

/-- Decode and encode agree for every instruction with every operand and for every transaction: each transaction has at
most one meaning, each instruction exactly one encoding (spec/30_encoding.md R69 to R73). -/
def Obligations.DecodeAndEncodeAgree : Prop :=
  ∀ (e : Event) (i : Instr), decode e = .ok i ↔ encode i = e

/-- Words written out from the spec's encoding decode to the instructions they stand for (spec/95_test_vectors.md
sections 3 to 8 and program P6). -/
def Obligations.WrittenWordsDecode : Prop :=
  decode (.cmd [0x02#8, 0xAE#8, 0xE7#8, 0x31#8]) = .ok (.crcVerify 0xAEE7#16 [0x31#8]) ∧
  decode (.cmd [0x11#8, 0x23#8]) = .ok (.hamDec 0x23#8) ∧
  decode (.cmd [0x13#8, 0x00#8, 0x01#8, 0x99#8, 0xA4#8]) = .ok (.fecDec 1#16 [0x99#8, 0xA4#8]) ∧
  decode (.cmd [0x30#8, 0x00#8, 0x00#8, 0x00#8, 0x11#8]) = .ok (.frgShould 17#32) ∧
  decode (.cmd [0x32#8, 0x00#8, 0x02#8, 0x03#8, 0x20#8]) = .ok (.frgAccept 0#8 2#8 3#8 [0x20#8]) ∧
  decode (.cmd [0x40#8, 0x41#8]) = .ok (.arqSend [0x41#8]) ∧
  decode (.cmd [0x81#8]) = .error .illegalCmd

/-- Multi-byte fields are big-endian (spec/20_memory.md R40): the more significant byte at the lower index, and
assembling the bytes gives the value back. -/
def Obligations.MultiByteFieldsAreBigEndian : Prop :=
  (∀ v : Half, be16 v = [BitVec.ofNat 8 (v.toNat / 256), BitVec.ofNat 8 (v.toNat % 256)]) ∧
  (∀ v : Word, be32 v =
    [BitVec.ofNat 8 (v.toNat / 16777216), BitVec.ofNat 8 (v.toNat / 65536 % 256),
     BitVec.ofNat 8 (v.toNat / 256 % 256), BitVec.ofNat 8 (v.toNat % 256)]) ∧
  (∀ a b : Byte, (unBe16 a b).toNat = a.toNat * 256 + b.toNat) ∧
  (∀ a b c d : Byte,
    (unBe32 a b c d).toNat = ((a.toNat * 256 + b.toNat) * 256 + c.toNat) * 256 + d.toNat)

/-! ## The CRC unit -/

/-- CRC.COMPUTE (spec/40_crc.md R94), encoding, result, error, state, corner cases and worked example. -/
def Obligations.CrcComputeAnswersTheChecksum : Prop :=
  ∀ (data : Bytes) (s : State),
    decode (.cmd (0x01#8 :: data)) = .ok (.crcCompute data) ∧
    (data.length ≤ maxFrame s.params →
      exec (.crcCompute data) s = .next (s.answered (0x00#8 :: be16 (crc16 s.params data)))) ∧
    (maxFrame s.params < data.length → exec (.crcCompute data) s = .next (s.answered [0x23#8])) ∧
    crc16 s.params [] = 0xFFFF#16 ∧ crc16 s.params [0xFF#8, 0xFF#8] = 0x0000#16 ∧
    (s.params.crcPoly = 0x8005#16 →
      crc16 s.params [0x31#8, 0x32#8, 0x33#8, 0x34#8, 0x35#8, 0x36#8, 0x37#8, 0x38#8, 0x39#8] = 0xAEE7#16)

/-- CRC.VERIFY (spec/40_crc.md R95): a mismatch is a result byte 0x00 under the status OK. -/
def Obligations.CrcVerifyComparesTheChecksum : Prop :=
  (∀ (hi lo : Byte) (data : Bytes),
    decode (.cmd (0x02#8 :: hi :: lo :: data)) = .ok (.crcVerify (hi ++ lo) data)) ∧
  (∀ args : Bytes, args.length < 2 → decode (.cmd (0x02#8 :: args)) = .error .badOperand) ∧
  (∀ (claimed : Half) (data : Bytes) (s : State),
    (data.length ≤ maxFrame s.params → crc16 s.params data = claimed →
      exec (.crcVerify claimed data) s = .next (s.answered [0x00#8, 0x01#8])) ∧
    (data.length ≤ maxFrame s.params → crc16 s.params data ≠ claimed →
      exec (.crcVerify claimed data) s = .next (s.answered [0x00#8, 0x00#8])) ∧
    (maxFrame s.params < data.length → exec (.crcVerify claimed data) s = .next (s.answered [0x23#8])) ∧
    exec (.crcVerify 0xFFFF#16 []) s = .next (s.answered [0x00#8, 0x01#8]) ∧
    (s.params.crcPoly = 0x8005#16 → 9 ≤ maxFrame s.params →
      exec (.crcVerify 0xAEE7#16
        [0x31#8, 0x32#8, 0x33#8, 0x34#8, 0x35#8, 0x36#8, 0x37#8, 0x38#8, 0x39#8]) s =
        .next (s.answered [0x00#8, 0x01#8]) ∧
      exec (.crcVerify 0xAEE6#16
        [0x31#8, 0x32#8, 0x33#8, 0x34#8, 0x35#8, 0x36#8, 0x37#8, 0x38#8, 0x39#8]) s =
        .next (s.answered [0x00#8, 0x00#8])))

/-- The byte step as arithmetic on numbers (spec/40_crc.md R92): the byte into the high half of the register, then eight
times a doubling cut to 16 bits with the polynomial exclusive-ored in when bit 15 was set before it. -/
def Obligations.CrcByteStepIsEightShiftSteps : Prop :=
  (∀ (poly r : Half),
    (crcBit poly r).toNat =
      if 32768 ≤ r.toNat then (2 * r.toNat % 65536) ^^^ poly.toNat else 2 * r.toNat % 65536) ∧
  (∀ (p : Params) (data : Bytes) (b : Byte),
    crc16 p (data ++ [b]) =
      Nat.repeat (crcBit p.crcPoly) 8 (crc16 p data ^^^ BitVec.ofNat 16 (256 * b.toNat)))

/-- The CRC consumes the bit stream of the data, each byte from bit 7 down to bit 0 (spec/20_memory.md R41): the bytewise
register equals the register fed one stream bit at a time at its top. -/
def Obligations.CrcConsumesTheBitStream : Prop :=
  ∀ (p : Params) (data : Bytes),
    crc16 p data =
      (bitStream data).foldl
        (fun (r : Half) (b : Bool) => if (r.msb ^^ b) = true then (r <<< 1) ^^^ p.crcPoly else r <<< 1)
        0xFFFF#16

/-- Appending the check value gives a zero register (spec/40_crc.md R97), and, for an odd polynomial, no other two bytes
do: the zero test and the comparison of FRM.DEC accept the same frames. -/
def Obligations.CrcOverDataAndChecksumIsZero : Prop :=
  (∀ (p : Params) (d : Bytes), crc16 p (d ++ be16 (crc16 p d)) = 0x0000#16) ∧
  (∀ (p : Params) (d : Bytes) (hi lo : Byte), p.crcPoly.getLsbD 0 = true →
    (crc16 p (d ++ [hi, lo]) = 0x0000#16 ↔ crc16 p d = hi ++ lo))

/-- Every single-bit alteration of a frame made by FRM.ENC is rejected with INTEGRITY (spec/40_crc.md R98,
spec/42_frame.md R132(a)), for every odd polynomial (spec/95_test_vectors.md V-CRC-9), 0x8005 among them. -/
def Obligations.OneFlippedBitIsAlwaysRejected : Prop :=
  ∀ (p : Params) (seq fid total : Byte) (payload : Bytes) (k : Nat),
    p.crcPoly.getLsbD 0 = true → payload.length ≤ maxPayload p →
    k < 8 * (frameEncode p seq fid total payload).length →
      frameDecode p (flipBit (frameEncode p seq fid total payload) k) = .error .integrity

/-! ## The Hamming unit and the FEC stream -/

/-- HAM.ENC (spec/41_hamming.md R101): the codeword's bits by the three parity equations, in the order
p1 p2 d0 p3 d1 d2 d3, with d0 = nib[3], d1 = nib[2], d2 = nib[1], d3 = nib[0]. -/
def Obligations.HamEncAnswersTheCodeword : Prop :=
  (∀ nib : Byte, decode (.cmd [0x10#8, nib]) = .ok (.hamEnc nib)) ∧
  (∀ args : Bytes, args.length ≠ 1 → decode (.cmd (0x10#8 :: args)) = .error .badOperand) ∧
  (∀ (nib : Byte) (s : State), 15#8 < nib → exec (.hamEnc nib) s = .next (s.answered [0x23#8])) ∧
  (∀ (nib : Byte) (s : State), nib ≤ 15#8 → ∃ cw : Byte,
    exec (.hamEnc nib) s = .next (s.answered [0x00#8, cw]) ∧
    cw.getLsbD 7 = false ∧
    cw.getLsbD 6 = (nib.getLsbD 3 ^^ nib.getLsbD 2 ^^ nib.getLsbD 0) ∧
    cw.getLsbD 5 = (nib.getLsbD 3 ^^ nib.getLsbD 1 ^^ nib.getLsbD 0) ∧
    cw.getLsbD 4 = nib.getLsbD 3 ∧
    cw.getLsbD 3 = (nib.getLsbD 2 ^^ nib.getLsbD 1 ^^ nib.getLsbD 0) ∧
    cw.getLsbD 2 = nib.getLsbD 2 ∧ cw.getLsbD 1 = nib.getLsbD 1 ∧ cw.getLsbD 0 = nib.getLsbD 0) ∧
  (∀ s : State, exec (.hamEnc 0x0B#8) s = .next (s.answered [0x00#8, 0x33#8]))

/-- HAM.DEC (spec/41_hamming.md R103): the syndrome names a position 0 to 7, the bit there is flipped, and the data bits
are read from their places. -/
def Obligations.HamDecAnswersTheCorrectedNibble : Prop :=
  (∀ cw : Byte, decode (.cmd [0x11#8, cw]) = .ok (.hamDec cw)) ∧
  (∀ args : Bytes, args.length ≠ 1 → decode (.cmd (0x11#8 :: args)) = .error .badOperand) ∧
  (∀ (cw : Byte) (s : State), 127#8 < cw → exec (.hamDec cw) s = .next (s.answered [0x23#8])) ∧
  (∀ (cw : Byte) (s : State), cw ≤ 127#8 → ∃ nib pos fixed : Byte,
    exec (.hamDec cw) s = .next (s.answered [0x00#8, nib, pos]) ∧
    pos.toNat =
      4 * (cw.getLsbD 3 ^^ cw.getLsbD 2 ^^ cw.getLsbD 1 ^^ cw.getLsbD 0).toNat +
      2 * (cw.getLsbD 5 ^^ cw.getLsbD 4 ^^ cw.getLsbD 1 ^^ cw.getLsbD 0).toNat +
      (cw.getLsbD 6 ^^ cw.getLsbD 4 ^^ cw.getLsbD 2 ^^ cw.getLsbD 0).toNat ∧
    fixed = (if pos = 0#8 then cw else cw ^^^ (1#8 <<< (7 - pos.toNat))) ∧
    nib.toNat = 8 * (fixed.getLsbD 4).toNat + 4 * (fixed.getLsbD 2).toNat + 2 * (fixed.getLsbD 1).toNat +
      (fixed.getLsbD 0).toNat) ∧
  (∀ s : State, exec (.hamDec 0x23#8) s = .next (s.answered [0x00#8, 0x0B#8, 0x03#8]))

/-- The encode table (spec/41_hamming.md R102), and the distance of the codewords. -/
def Obligations.HammingEncodeTable : Prop :=
  (List.range 16).map (fun n => henc (BitVec.ofNat 4 n)) =
    [0x00#7, 0x69#7, 0x2A#7, 0x43#7, 0x4C#7, 0x25#7, 0x66#7, 0x0F#7,
     0x70#7, 0x19#7, 0x5A#7, 0x33#7, 0x3C#7, 0x55#7, 0x16#7, 0x7F#7] ∧
  (∀ m n : BitVec 4, m ≠ n → 3 ≤ ((bitsMsb (henc m ^^^ henc n)).filter id).length)

/-- The exact properties of `HDEC` (spec/41_hamming.md R104): a valid codeword decodes to its nibble, one flipped bit is
repaired and located, every word is within distance 1 of exactly one codeword and decodes to its data, and two or more
flipped bits always give a wrong nibble. -/
def Obligations.HammingDecodeIsNearestCodeword : Prop :=
  (∀ n : BitVec 4, hdec (henc n) = (n, 0#3)) ∧
  (∀ (n : BitVec 4) (k : BitVec 3), k ≠ 0#3 → hdec (henc n ^^^ (1#7 <<< (7 - k.toNat))) = (n, k)) ∧
  (∀ w : BitVec 7,
    ((bitsMsb (w ^^^ henc (hdec w).1)).filter id).length = (if (hdec w).2 = 0#3 then 0 else 1) ∧
    ∀ m : BitVec 4, ((bitsMsb (w ^^^ henc m)).filter id).length ≤ 1 → m = (hdec w).1) ∧
  ((List.range 128).filter fun w => decide ((hdec (BitVec.ofNat 7 w)).2 = 0#3)).length = 16 ∧
  (∀ (n : BitVec 4) (w : BitVec 7), 2 ≤ ((bitsMsb (w ^^^ henc n)).filter id).length → (hdec w).1 ≠ n)

/-- FEC.ENC (spec/41_hamming.md R105): the codewords of the nibbles, high nibble first, back to back, then zero bits to
the byte boundary; the empty string, the worked example, and the refusal. -/
def Obligations.FecEncPacksTheCodewords : Prop :=
  ∀ (data : Bytes) (s : State),
    decode (.cmd (0x12#8 :: data)) = .ok (.fecEnc data) ∧
    (maxPayload s.params < data.length → exec (.fecEnc data) s = .next (s.answered [0x23#8])) ∧
    (data.length ≤ maxPayload s.params → ∃ img : Bytes,
      exec (.fecEnc data) s = .next (s.answered (0x00#8 :: img)) ∧
      8 * img.length < 14 * data.length + 8 ∧ 14 * data.length ≤ 8 * img.length ∧
      (∀ j < data.length, ∀ k < 7,
        (bitStream img)[14 * j + k]? =
          some ((henc ((data.getD j 0x00#8).extractLsb' 4 4)).getLsbD (6 - k)) ∧
        (bitStream img)[14 * j + 7 + k]? =
          some ((henc ((data.getD j 0x00#8).extractLsb' 0 4)).getLsbD (6 - k))) ∧
      (∀ k, 14 * data.length ≤ k → k < 8 * img.length → (bitStream img)[k]? = some false)) ∧
    exec (.fecEnc []) s = .next (s.answered [0x00#8]) ∧
    (1 ≤ maxPayload s.params → exec (.fecEnc [0x41#8]) s = .next (s.answered [0x00#8, 0x99#8, 0xA4#8]))

/-- Length of the FEC image (spec/41_hamming.md R106): `ceil(14*L/8) = ceil(7*L/4)`, strictly increasing, with 0, 2, 4
or 6 pad bits for L mod 4 = 0, 1, 2, 3. -/
def Obligations.FecImageLength : Prop :=
  (∀ d : Bytes, (fecEncode d).length = fecLen d.length) ∧
  (∀ l : Nat, fecLen l = (7 * l + 3) / 4 ∧ fecLen l = (14 * l + 7) / 8 ∧ fecLen l < fecLen (l + 1) ∧
    8 * fecLen l = 14 * l + 2 * (l % 4)) ∧
  [0, 1, 2, 3, 4, 5, 8, 12, 16].map fecLen = [0, 2, 4, 6, 7, 9, 14, 21, 28]

/-- FEC.DEC (spec/41_hamming.md R107): each output byte is the two corrected nibbles of its two codewords, high nibble
first, and nothing after stream bit 14*L - 1 is looked at. -/
def Obligations.FecDecUnpacksTheCodewords : Prop :=
  (∀ (hi lo : Byte) (img : Bytes),
    decode (.cmd (0x13#8 :: hi :: lo :: img)) = .ok (.fecDec (hi ++ lo) img)) ∧
  (∀ args : Bytes, args.length < 2 → decode (.cmd (0x13#8 :: args)) = .error .badOperand) ∧
  (∀ (len : Half) (img : Bytes) (s : State),
    (maxPayload s.params < len.toNat ∨ img.length ≠ fecLen len.toNat →
      exec (.fecDec len img) s = .next (s.answered [0x23#8])) ∧
    (len.toNat ≤ maxPayload s.params → img.length = fecLen len.toNat → ∃ out : Bytes,
      exec (.fecDec len img) s = .next (s.answered (0x00#8 :: out)) ∧ out.length = len.toNat ∧
      ∀ j < len.toNat, ∃ h l : BitVec 7,
        (∀ k < 7, h.getLsbD (6 - k) = (bitStream img).getD (14 * j + k) false) ∧
        (∀ k < 7, l.getLsbD (6 - k) = (bitStream img).getD (14 * j + 7 + k) false) ∧
        out[j]? = some ((hdec h).1 ++ (hdec l).1)) ∧
    exec (.fecDec 0#16 []) s = .next (s.answered [0x00#8]) ∧
    (1 ≤ maxPayload s.params →
      exec (.fecDec 1#16 [0x99#8, 0xA4#8]) s = .next (s.answered [0x00#8, 0x41#8]) ∧
      exec (.fecDec 1#16 [0x89#8, 0xA4#8]) s = .next (s.answered [0x00#8, 0x41#8])))

/-- Round trip, and resilience to one error in each codeword (spec/41_hamming.md R108): an image that differs from the
encoder's in at most one bit of each 7-bit span, and in any pad bits, decodes to the data. -/
def Obligations.FecSurvivesOneErrorPerCodeword : Prop :=
  (∀ d : Bytes, fecDecode (fecEncode d) d.length = d) ∧
  (∀ d img : Bytes, img.length = (fecEncode d).length →
    (∀ m < 2 * d.length, spanErrors img (fecEncode d) m ≤ 1) → fecDecode img d.length = d)

/-! ## The frame codec -/

/-- FRM.ENC (spec/42_frame.md R121): header, FEC image, original length, then the CRC over all of these; header bytes
unchecked. -/
def Obligations.FrmEncAnswersTheFrame : Prop :=
  (∀ (seq fid total : Byte) (payload : Bytes),
    decode (.cmd (0x20#8 :: seq :: fid :: total :: payload)) = .ok (.frmEnc seq fid total payload)) ∧
  (∀ args : Bytes, args.length < 3 → decode (.cmd (0x20#8 :: args)) = .error .badOperand) ∧
  (∀ (seq fid total : Byte) (payload : Bytes) (s : State),
    (maxPayload s.params < payload.length →
      exec (.frmEnc seq fid total payload) s = .next (s.answered [0x23#8])) ∧
    (payload.length ≤ maxPayload s.params → ∃ body : Bytes,
      body = [seq, fid, total] ++ fecEncode payload ++ be16 (BitVec.ofNat 16 payload.length) ∧
      exec (.frmEnc seq fid total payload) s =
        .next (s.answered (0x00#8 :: (body ++ be16 (crc16 s.params body))))) ∧
    (s.params.crcPoly = 0x8005#16 →
      exec (.frmEnc 0#8 0#8 1#8 []) s =
        .next (s.answered [0x00#8, 0x00#8, 0x00#8, 0x01#8, 0x00#8, 0x00#8, 0xA4#8, 0x17#8])) ∧
    (s.params.crcPoly = 0x8005#16 → 12 ≤ maxPayload s.params →
      exec (.frmEnc 1#8 0#8 1#8
        [0x48#8, 0x65#8, 0x6C#8, 0x6C#8, 0x6F#8, 0x20#8, 0x77#8, 0x6F#8, 0x72#8, 0x6C#8, 0x64#8, 0x21#8]) s =
        .next (s.answered
          [0x00#8, 0x01#8, 0x00#8, 0x01#8, 0x99#8, 0xC3#8, 0x32#8, 0x5C#8, 0xCF#8, 0x33#8, 0x3C#8, 0xCD#8, 0xFD#8,
           0x50#8, 0x01#8, 0xE3#8, 0xF3#8, 0x7F#8, 0x1E#8, 0xAB#8, 0x33#8, 0xCC#8, 0xD3#8, 0x15#8, 0x69#8, 0x00#8,
           0x0C#8, 0xD9#8, 0xDE#8])))

/-- FRM.DEC (spec/42_frame.md R125 to R130): the four checks in their order, the first that fails deciding, and the
decoded frame. -/
def Obligations.FrmDecChecksInOrder : Prop :=
  ∀ (f : Bytes) (s : State),
    decode (.cmd (0x21#8 :: f)) = .ok (.frmDec f) ∧
    (f.length < 7 → exec (.frmDec f) s = .next (s.answered [0x01#8])) ∧
    (7 ≤ f.length → maxFrame s.params < f.length → exec (.frmDec f) s = .next (s.answered [0x11#8])) ∧
    (7 ≤ f.length → f.length ≤ maxFrame s.params →
      crc16 s.params (f.take (f.length - 2)) ≠
        f.getD (f.length - 2) 0x00#8 ++ f.getD (f.length - 1) 0x00#8 →
      exec (.frmDec f) s = .next (s.answered [0x02#8])) ∧
    (∀ len : Nat,
      7 ≤ f.length → f.length ≤ maxFrame s.params →
      crc16 s.params (f.take (f.length - 2)) =
        f.getD (f.length - 2) 0x00#8 ++ f.getD (f.length - 1) 0x00#8 →
      len = 256 * (f.getD (f.length - 4) 0x00#8).toNat + (f.getD (f.length - 3) 0x00#8).toNat →
      (f.length - 7 ≠ fecLen len → exec (.frmDec f) s = .next (s.answered [0x12#8])) ∧
      (f.length - 7 = fecLen len →
        exec (.frmDec f) s =
          .next (s.answered (0x00#8 :: f.getD 0 0x00#8 :: f.getD 1 0x00#8 :: f.getD 2 0x00#8 ::
            fecDecode ((f.drop 3).take (f.length - 7)) len)))) ∧
    (s.params.crcPoly = 0x8005#16 → 28 ≤ maxFrame s.params →
      f = [0x01#8, 0x00#8, 0x01#8, 0x99#8, 0xC3#8, 0x32#8, 0x5C#8, 0xCF#8, 0x33#8, 0x3C#8, 0xCD#8, 0xFD#8, 0x50#8,
           0x01#8, 0xE3#8, 0xF3#8, 0x7F#8, 0x1E#8, 0xAB#8, 0x33#8, 0xCC#8, 0xD3#8, 0x15#8, 0x69#8, 0x00#8, 0x0C#8,
           0xD9#8, 0xDE#8] →
      exec (.frmDec f) s =
        .next (s.answered
          [0x00#8, 0x01#8, 0x00#8, 0x01#8, 0x48#8, 0x65#8, 0x6C#8, 0x6C#8, 0x6F#8, 0x20#8, 0x77#8, 0x6F#8, 0x72#8,
           0x6C#8, 0x64#8, 0x21#8]))

/-- Length of a frame (spec/42_frame.md R123), and the bound on an accepted payload (R128). -/
def Obligations.FrameLengths : Prop :=
  (∀ (p : Params) (seq fid total : Byte) (payload : Bytes),
    (frameEncode p seq fid total payload).length = 7 + fecLen payload.length ∧
    (payload.length ≤ maxPayload p →
      7 ≤ (frameEncode p seq fid total payload).length ∧
      (frameEncode p seq fid total payload).length ≤ maxFrame p)) ∧
  (∀ (p : Params) (f : Bytes) (fr : Frame),
    frameDecode p f = .ok fr → fr.payload.length ≤ maxPayload p)

/-- Round trip of the frame codec (spec/42_frame.md R131). -/
def Obligations.FrameRoundTrip : Prop :=
  ∀ (p : Params) (seq fid total : Byte) (m : Bytes), m.length ≤ maxPayload p →
    frameDecode p (frameEncode p seq fid total m) = .ok { seq := seq, fid := fid, total := total, payload := m }

/-! ## The fragmentation manager -/

/-- FRG.SHOULD (spec/43_fragmentation.md R141): strictly greater than the threshold. -/
def Obligations.FrgShouldComparesWithTheThreshold : Prop :=
  (∀ a b c d : Byte, decode (.cmd [0x30#8, a, b, c, d]) = .ok (.frgShould (a ++ b ++ c ++ d))) ∧
  (∀ args : Bytes, args.length ≠ 4 → decode (.cmd (0x30#8 :: args)) = .error .badOperand) ∧
  (∀ (mlen : Word) (s : State),
    exec (.frgShould mlen) s =
      .next (s.answered [0x00#8, if s.params.fragThreshold.toNat < mlen.toNat then 0x01#8 else 0x00#8])) ∧
  (∀ s : State, s.params.fragThreshold = 16#16 →
    exec (.frgShould 12#32) s = .next (s.answered [0x00#8, 0x00#8]) ∧
    exec (.frgShould 16#32) s = .next (s.answered [0x00#8, 0x00#8]) ∧
    exec (.frgShould 17#32) s = .next (s.answered [0x00#8, 0x01#8]))

/-- FRG.SPLIT (spec/43_fragmentation.md R142): T fragments with their lengths, or TOO_LONG above 255. -/
def Obligations.FrgSplitAnswersTheFragments : Prop :=
  ∀ (msg : Bytes) (s : State) (fs n : Nat),
    fs = s.params.fragmentSize.toNat → 1 ≤ fs → n = max 1 ((msg.length + fs - 1) / fs) →
    decode (.cmd (0x31#8 :: msg)) = .ok (.frgSplit msg) ∧
    (255 < n → exec (.frgSplit msg) s = .next (s.answered [0x21#8])) ∧
    (n ≤ 255 →
      exec (.frgSplit msg) s =
        .next (s.answered (0x00#8 :: BitVec.ofNat 8 n :: (List.range n).flatMap fun i =>
          be16 (BitVec.ofNat 16 (min fs (msg.length - i * fs))) ++ (msg.drop (i * fs)).take fs)))

/-- Properties of `SPLIT` (spec/43_fragmentation.md R142, R143): the payloads concatenate to the message; every payload
but the last has exactly FRAGMENT_SIZE bytes, the last 1 to FRAGMENT_SIZE, or 0 for the empty message. -/
def Obligations.SplitPayloadsConcatenateToTheMessage : Prop :=
  ∀ (p : Params) (msg : Bytes), p.fragmentSize ≠ 0#16 →
    (splitPayloads p msg).flatten = msg ∧
    (splitPayloads p msg).length = splitCount p msg ∧
    (∀ i < splitCount p msg, (splitPayload p msg i).length ≤ p.fragmentSize.toNat) ∧
    (∀ i, i + 1 < splitCount p msg → (splitPayload p msg i).length = p.fragmentSize.toNat) ∧
    (msg ≠ [] → 1 ≤ (splitPayload p msg (splitCount p msg - 1)).length)

/-- FRG.ACCEPT (spec/43_fragmentation.md R144 to R149): the refusals, which write nothing; a fragment stored; a fragment
that completes its message, which is returned and the buffer destroyed. Everything else, every other slot and every
byte outside the payload's, is as before. -/
def Obligations.FrgAcceptStoresOrCompletes : Prop :=
  ∀ (key fid total : Byte) (payload : Bytes) (s : State),
    decode (.cmd (0x32#8 :: key :: fid :: total :: payload)) = .ok (.frgAccept key fid total payload) ∧
    (∀ args : Bytes, args.length < 3 → decode (.cmd (0x32#8 :: args)) = .error .badOperand) ∧
    (maxPayload s.params < payload.length →
      exec (.frgAccept key fid total payload) s = .next (s.answered [0x23#8])) ∧
    (payload.length ≤ maxPayload s.params → (total = 0#8 ∨ total ≤ fid) →
      exec (.frgAccept key fid total payload) s = .next (s.answered [0x13#8])) ∧
    (payload.length ≤ maxPayload s.params → fid < total → s.BuffersWf →
      ∃ t, exec (.frgAccept key fid total payload) s = .next t ∧
        (¬ Completes s key fid total → StoredOnly s t key fid total payload [.rsp [0x00#8, 0x00#8]]) ∧
        (Completes s key fid total →
          StoredAndDestroyed s t key fid total payload s.expectedRecvSeq
            [.rsp (0x00#8 :: 0x01#8 :: completedMessage s fid total payload)]))

/-- FRG.DROP (spec/43_fragmentation.md R150, R149): the buffer destroyed, tag, lengths and bytes left as they are. -/
def Obligations.FrgDropDestroysTheBuffer : Prop :=
  decode (.cmd [0x33#8]) = .ok .frgDrop ∧
  (∀ args : Bytes, args ≠ [] → decode (.cmd (0x33#8 :: args)) = .error .badOperand) ∧
  (∀ s : State, ∃ t, exec .frgDrop s = .next t ∧
    t = { s with rbActive := false, rbValid := t.rbValid, emitted := s.emitted ++ [.rsp [0x00#8]] } ∧
    (∀ i < 255, Bank.get t.rbValid i = false) ∧
    t.statValue 0x07#8 = some 0#32 ∧ ∃ v, t.statValue 0x06#8 = some v ∧ v.getLsbD 16 = false)

/-- Reassembly does not depend on the order (spec/43_fragmentation.md R151): from a buffer that is inactive or tagged
differently, feeding the fragments of a message in any order, with any repetitions, answers "incomplete" each time until
the last missing id is fed, which answers the message. -/
def Obligations.ReassemblyInAnyOrderGivesTheMessage : Prop :=
  ∀ (s : State) (key : Byte) (msg : Bytes) (ids : List Nat) (last : Nat) (feed : Nat → Instr),
    s.params.fragmentSize ≠ 0#16 → splitCount s.params msg ≤ 255 → s.BuffersWf →
    (s.rbActive = false ∨ s.rbKey ≠ key ∨ s.rbTotal ≠ BitVec.ofNat 8 (splitCount s.params msg)) →
    (∀ i, feed i =
      .frgAccept key (BitVec.ofNat 8 i) (BitVec.ofNat 8 (splitCount s.params msg)) (splitPayload s.params msg i)) →
    (∀ i ∈ ids, i < splitCount s.params msg ∧ i ≠ last) → last < splitCount s.params msg →
    (∀ i < splitCount s.params msg, i = last ∨ i ∈ ids) →
      ∃ t, execAll ((ids ++ [last]).map feed) s = .next t ∧
        t.rbActive = false ∧
        t.emitted = s.emitted ++ ids.map (fun _ => .rsp [0x00#8, 0x00#8]) ++ [.rsp (0x00#8 :: 0x01#8 :: msg)]

/-! ## The ARQ sequencer -/

/-- ARQ.SEND refused (spec/44_arq.md R162, R163): BUSY while a send is in flight, TOO_LONG above 255 fragments; nothing
written, nothing transmitted. -/
def Obligations.ArqSendRefusals : Prop :=
  ∀ (msg : Bytes) (s : State),
    decode (.cmd (0x40#8 :: msg)) = .ok (.arqSend msg) ∧
    (s.arqState = .pending ∨ s.arqState = .partiallyAcked →
      exec (.arqSend msg) s = .next (s.answered [0x20#8])) ∧
    (s.arqState = .idle ∨ s.arqState = .acked ∨ s.arqState = .failed → TooLong s.params msg →
      exec (.arqSend msg) s = .next (s.answered [0x21#8]))

/-- ARQ.SEND accepted (spec/44_arq.md R162, R164, R165): the message stored, every fragment pending with counter 0, one
frame per fragment on TX in ascending order, then the RSP, and the timer loaded. Every other element, and every byte of
the message buffer beyond the message, is as before. -/
def Obligations.ArqSendStartsTheFirstRound : Prop :=
  ∀ (msg : Bytes) (s : State),
    s.params.Valid → s.BuffersWf →
    s.arqState = .idle ∨ s.arqState = .acked ∨ s.arqState = .failed →
    ¬ TooLong s.params msg →
      ∃ t, exec (.arqSend msg) s = .next t ∧
        t = { s with
          txMsg := t.txMsg, pending := t.pending, retryCnt := t.retryCnt
          txLen := BitVec.ofNat 32 msg.length, txTotal := BitVec.ofNat 8 (totalOf s.params msg)
          arqState := .pending, ackTimer := s.params.ackTimeout
          emitted := s.emitted ++
            (List.range (totalOf s.params msg)).map (fun i => Output.tx
              (frameEncode s.params (s.sendSeq.setWidth 8) (BitVec.ofNat 8 i)
                (BitVec.ofNat 8 (totalOf s.params msg)) (payloadOf s.params msg i))) ++
            [.rsp [0x00#8]] } ∧
        1 ≤ totalOf s.params msg ∧ totalOf s.params msg ≤ 255 ∧
        (∀ i < 255, Bank.get t.pending i = decide (i < totalOf s.params msg)) ∧
        (∀ i < 255, Bank.get t.retryCnt i = 0#8) ∧
        (∀ a, t.txMsg.read a = if a < msg.length then msg.getD a 0x00#8 else s.txMsg.read a)

/-- Retransmissions are byte-identical (spec/44_arq.md R165): no operation that leaves the send in flight changes
`send_seq`, `tx_msg`, `tx_len` or `tx_total`, and so the frame of every fragment stays the same. -/
def Obligations.FramesStayTheSameWhileInFlight : Prop :=
  ∀ (i : Instr) (s t : State), exec i s = .next t →
    s.arqState.inFlight = true → t.arqState.inFlight = true →
      t.sendSeq = s.sendSeq ∧ t.txMsg = s.txMsg ∧ t.txLen = s.txLen ∧ t.txTotal = s.txTotal ∧
      ∀ k, t.txFrame k = s.txFrame k

/-- An acknowledgment that counts (spec/44_arq.md R166, R167, R168): its id leaves the pending set; the last one ends the
send with success, toggles the sequence bit and emits SEND_DONE, OK. The timer is not touched before that. -/
def Obligations.CountingAckIsApplied : Prop :=
  ∀ (f : Bytes) (fr : Frame) (s : State), frameDecode s.params f = .ok fr → Counts s fr →
    (OthersPending s fr.fid →
      exec (.rx f) s = .next { s with
        pending := Bank.put s.pending fr.fid.toNat false
        retryCnt := Bank.put s.retryCnt fr.fid.toNat 0#8
        arqState := .partiallyAcked }) ∧
    (¬ OthersPending s fr.fid →
      exec (.rx f) s = .next { s with
        pending := Bank.fill false, retryCnt := Bank.fill 0#8, arqState := .acked
        sendSeq := s.sendSeq ^^^ 1#1, ackTimer := 0#32, emitted := s.emitted ++ [.evt 0x01#8 0x00#8] })

/-- Every other acknowledgment frame is ignored (spec/44_arq.md R166): no state changes, nothing is emitted, no counter
moves, whatever its metadata. -/
def Obligations.OtherAcksAreIgnored : Prop :=
  ∀ (f : Bytes) (fr : Frame) (s : State), frameDecode s.params f = .ok fr →
    fr.payload = [0x41#8, 0x43#8, 0x4B#8] → ¬ Counts s fr → exec (.rx f) s = .next s

/-- Dropped datagrams (spec/44_arq.md R173, R174; spec/10_state.md R19): counted by kind in a counter that stays at
0xFFFF, nothing emitted, nothing else changed. -/
def Obligations.BadDatagramsAreCountedAndDropped : Prop :=
  ∀ (f : Bytes) (s : State),
    (f.length < 7 ∨ maxFrame s.params < f.length →
      exec (.rx f) s = .next { s with cntMalformed := BitVec.ofNat 16 (min (s.cntMalformed.toNat + 1) 65535) }) ∧
    (7 ≤ f.length → f.length ≤ maxFrame s.params →
      crc16 s.params (f.take (f.length - 2)) ≠
        f.getD (f.length - 2) 0x00#8 ++ f.getD (f.length - 1) 0x00#8 →
      exec (.rx f) s = .next { s with cntIntegrity := BitVec.ofNat 16 (min (s.cntIntegrity.toNat + 1) 65535) }) ∧
    (7 ≤ f.length → f.length ≤ maxFrame s.params →
      crc16 s.params (f.take (f.length - 2)) =
        f.getD (f.length - 2) 0x00#8 ++ f.getD (f.length - 1) 0x00#8 →
      f.length - 7 ≠
        fecLen (256 * (f.getD (f.length - 4) 0x00#8).toNat + (f.getD (f.length - 3) 0x00#8).toNat) →
      exec (.rx f) s = .next { s with cntMalformed := BitVec.ofNat 16 (min (s.cntMalformed.toNat + 1) 65535) }) ∧
    (∀ fr, frameDecode s.params f = .ok fr → fr.payload ≠ [0x41#8, 0x43#8, 0x4B#8] →
      (fr.total = 0#8 ∨ fr.total ≤ fr.fid) →
      exec (.rx f) s = .next { s with cntBadmeta := BitVec.ofNat 16 (min (s.cntBadmeta.toNat + 1) 65535) })

/-- New-message path (spec/44_arq.md R175, R176): the acknowledgment with the header copied, then the fragment stored, or
the completed message delivered and `expected_recv_seq` toggled. Everything else is as before. -/
def Obligations.NewDataIsAcknowledgedStoredAndDelivered : Prop :=
  ∀ (f : Bytes) (fr : Frame) (s : State) (ack : Bytes), frameDecode s.params f = .ok fr → GoodData fr →
    fr.seq = s.expectedRecvSeq.setWidth 8 → s.BuffersWf →
    ack = frameEncode s.params fr.seq fr.fid fr.total [0x41#8, 0x43#8, 0x4B#8] →
      ∃ t, exec (.rx f) s = .next t ∧
        (¬ Completes s fr.seq fr.fid fr.total →
          StoredOnly s t fr.seq fr.fid fr.total fr.payload [.tx ack]) ∧
        (Completes s fr.seq fr.fid fr.total →
          StoredAndDestroyed s t fr.seq fr.fid fr.total fr.payload (s.expectedRecvSeq ^^^ 1#1)
            [.tx ack, .dlv (completedMessage s fr.fid fr.total fr.payload)])

/-- Duplicate path (spec/44_arq.md R177): a data frame with any other sequence byte, 2 to 255 included, is acknowledged and
nothing else happens. -/
def Obligations.DuplicatesAreAcknowledgedOnly : Prop :=
  ∀ (f : Bytes) (fr : Frame) (s : State), frameDecode s.params f = .ok fr → GoodData fr →
    fr.seq ≠ s.expectedRecvSeq.setWidth 8 →
      exec (.rx f) s = .next { s with
        emitted := s.emitted ++ [.tx (frameEncode s.params fr.seq fr.fid fr.total [0x41#8, 0x43#8, 0x4B#8])] }

/-- TICK outside a timeout (spec/44_arq.md R169): no effect without a send in flight; with one, a timer above 1 counts
down. -/
def Obligations.TickCountsDown : Prop :=
  ∀ s : State,
    (s.arqState = .idle ∨ s.arqState = .acked ∨ s.arqState = .failed → exec .tick s = .next s) ∧
    (s.arqState = .pending ∨ s.arqState = .partiallyAcked → 1 < s.ackTimer.toNat →
      exec .tick s = .next { s with ackTimer := BitVec.ofNat 32 (s.ackTimer.toNat - 1) })

/-- Timeout (spec/44_arq.md R169, R170, R171): every pending counter incremented; if one reaches MAX_RETRY the send fails with
the bookkeeping released, the sequence bit kept and SEND_DONE, RETRY_EXHAUSTED emitted; else the fragments still
pending are retransmitted in ascending order and the timer reloaded. -/
def Obligations.TimeoutRetransmitsOrFails : Prop :=
  ∀ s : State, s.arqState = .pending ∨ s.arqState = .partiallyAcked → s.ackTimer.toNat ≤ 1 →
    (ReachesCeiling s →
      exec .tick s = .next { s with
        arqState := .failed, pending := Bank.fill false, retryCnt := Bank.fill 0#8, ackTimer := 0#32
        emitted := s.emitted ++ [.evt 0x01#8 0x04#8] }) ∧
    (¬ ReachesCeiling s → ∃ t, exec .tick s = .next t ∧
      t = { s with
        retryCnt := t.retryCnt, ackTimer := s.params.ackTimeout
        emitted := s.emitted ++
          ((List.range s.txTotal.toNat).filter fun i => Bank.get s.pending i).map fun i =>
            Output.tx (s.txFrame i) } ∧
      ∀ i < 255, Bank.get t.retryCnt i = retryAfterTimeout s i)

/-- The transition table of `arq_state` (spec/44_arq.md R172): no other transition exists. -/
def Obligations.ArqTransitionTable : Prop :=
  ∀ (i : Instr) (s t : State), exec i s = .next t → ArqTransition s i t.arqState

/-- The retry ceiling (spec/44_arq.md R178), for a send after which only TICKs come: in flight through every TICK before
number MAX_RETRY * ACK_TIMEOUT, FAILED at that one, every fragment transmitted exactly MAX_RETRY times, the last timeout
transmitting nothing, and one SEND_DONE, RETRY_EXHAUSTED. -/
def Obligations.RetryCeilingIsExact : Prop :=
  ∀ (s u : State) (msg : Bytes) (burst : List Output),
    s.params.Valid → s.BuffersWf → s.arqState.inFlight = false → ¬ TooLong s.params msg →
    burst = (List.range (totalOf s.params msg)).map (fun i => Output.tx
      (frameEncode s.params (s.sendSeq.setWidth 8) (BitVec.ofNat 8 i)
        (BitVec.ofNat 8 (totalOf s.params msg)) (payloadOf s.params msg i))) →
    exec (.arqSend msg) s = .next u →
      (∀ n < s.params.maxRetry.toNat * s.params.ackTimeout.toNat,
        ∃ t, execAll (List.replicate n .tick) u = .next t ∧ t.arqState = .pending) ∧
      ∃ t, execAll (List.replicate (s.params.maxRetry.toNat * s.params.ackTimeout.toNat) .tick) u = .next t ∧
        t.arqState = .failed ∧ t.sendSeq = s.sendSeq ∧
        t.emitted = s.emitted ++ burst ++ [.rsp [0x00#8]] ++
          (List.replicate (s.params.maxRetry.toNat - 1) burst).flatten ++ [.evt 0x01#8 0x04#8]

/-- Duplicate suppression (spec/44_arq.md R180): a delivery of a message with sequence byte `fr.seq` acknowledges the frame
and leaves the other value expected; until the next delivery toggles `expected_recv_seq` back, every data frame with that
byte gets one acknowledgment, the one the frame got the first time, and no delivery. -/
def Obligations.DeliveredMessagesAreNotDeliveredAgain : Prop :=
  ∀ (f : Bytes) (fr : Frame) (s t : State) (msg : Bytes),
    frameDecode s.params f = .ok fr → exec (.rx f) s = .next t →
    t.emitted.getLast? = some (.dlv msg) → t.emitted ≠ s.emitted →
      t.expectedRecvSeq = fr.seq.setWidth 1 ^^^ 1#1 ∧
      t.emitted = s.emitted ++
        [.tx (frameEncode s.params fr.seq fr.fid fr.total [0x41#8, 0x43#8, 0x4B#8]), .dlv msg] ∧
      ∀ (g : Bytes) (gr : Frame) (u : State),
        u.params = t.params → u.expectedRecvSeq = t.expectedRecvSeq →
        frameDecode u.params g = .ok gr → GoodData gr → gr.seq = fr.seq →
          exec (.rx g) u = .next { u with
            emitted := u.emitted ++ [.tx (frameEncode s.params gr.seq gr.fid gr.total [0x41#8, 0x43#8, 0x4B#8])] }

/-- The two directions are independent (spec/44_arq.md R182): a received data frame does not touch the send side, a received
acknowledgment does not touch the receive side, and neither do ARQ.SEND and TICK. -/
def Obligations.DirectionsAreIndependent : Prop :=
  (∀ (f : Bytes) (fr : Frame) (s t : State), frameDecode s.params f = .ok fr → exec (.rx f) s = .next t →
    (fr.payload ≠ [0x41#8, 0x43#8, 0x4B#8] → SameSendSide s t) ∧
    (fr.payload = [0x41#8, 0x43#8, 0x4B#8] → SameRecvSide s t ∧ SameCounters s t)) ∧
  (∀ (msg : Bytes) (s t : State), exec (.arqSend msg) s = .next t → SameRecvSide s t ∧ SameCounters s t) ∧
  (∀ s t : State, exec .tick s = .next t → SameRecvSide s t ∧ SameCounters s t) ∧
  (∀ (key fid total : Byte) (payload : Bytes) (s t : State),
    exec (.frgAccept key fid total payload) s = .next t → SameSendSide s t ∧ SameCounters s t)

/-- What writes the sequence bits (spec/10_state.md R12): `send_seq` toggles only when the last acknowledgment of a send in
flight arrives, `expected_recv_seq` only on a delivery, and RESET clears both. -/
def Obligations.SequenceBitsToggleOnlyOnCompletion : Prop :=
  (∀ (i : Instr) (s t : State), exec i s = .next t → t.sendSeq ≠ s.sendSeq →
    i = .reset ∨
    ((∃ f, i = .rx f) ∧ s.arqState.inFlight = true ∧ t.arqState = .acked ∧
      t.sendSeq = s.sendSeq ^^^ 1#1 ∧ t.emitted = s.emitted ++ [.evt 0x01#8 0x00#8])) ∧
  (∀ (i : Instr) (s t : State), exec i s = .next t → t.expectedRecvSeq ≠ s.expectedRecvSeq →
    i = .reset ∨
    ((∃ f, i = .rx f) ∧ t.expectedRecvSeq = s.expectedRecvSeq ^^^ 1#1 ∧
      ∃ ack msg, t.emitted = s.emitted ++ [.tx ack, .dlv msg])) ∧
  (∀ s t : State, exec .reset s = .next t → t.sendSeq = 0#1 ∧ t.expectedRecvSeq = 0#1)

/-! ## Whole-machine rules -/

/-- Exactly one RSP per CMD transaction (spec/30_encoding.md R71): it is the event's last output; a status other than OK has
no result bytes, no other output and no state change. -/
def Obligations.EveryCommandGetsOneResponse : Prop :=
  ∀ (s : State) (c : Bytes) (rest : List (List Event)),
    nextEvent s.presented = some (.cmd c, rest) →
      ∃ (t : State) (outs : List Output) (status : Byte) (results : Bytes),
        step s = .next t ∧ t.emitted = s.emitted ++ outs ++ [.rsp (status :: results)] ∧
        (∀ o ∈ outs, isRsp o = false) ∧
        (status ≠ 0x00#8 → results = [] ∧ outs = [] ∧
          t = { s with presented := rest, emitted := s.emitted ++ [.rsp [status]] })

/-- Which operations cause which outputs (spec/60_exceptions.md R225): outputs are only ever added; a DLV is caused only by
an RX event, an EVT only by an RX (success) or a TICK (failure), so no command causes either; an RSP only by a command;
RESET emits nothing. -/
def Obligations.OutputsHaveTheirCauses : Prop :=
  ∀ (i : Instr) (s t : State), exec i s = .next t →
    ∃ outs : List Output, t.emitted = s.emitted ++ outs ∧
      (∀ msg, .dlv msg ∈ outs → ∃ f, i = .rx f) ∧
      (∀ kind code, .evt kind code ∈ outs →
        kind = 0x01#8 ∧ ((∃ f, i = .rx f) ∧ code = 0x00#8 ∨ i = .tick ∧ code = 0x04#8)) ∧
      (∀ r, .rsp r ∈ outs → isCommand i = true) ∧
      (i = .reset → outs = []) ∧
      (∀ f, i = .rx f → outs.length ≤ 2 ∧ ∀ o ∈ outs, isRsp o = false)

/-- The operand values refused with BAD_OPERAND (spec/60_exceptions.md R218), and the messages FRG.SPLIT refuses with TOO_LONG
(R219): every operation but FRG.SPLIT answers BAD_OPERAND if and only if an operand is outside its range; FRG.SPLIT never
answers BAD_OPERAND, and answers TOO_LONG if and only if its message needs more than 255 fragments. Such a refusal changes
no state. Refusals for other reasons (BAD_META, BUSY, TOO_LONG of ARQ.SEND, the errors of FRM.DEC) are not spoken of. -/
def Obligations.OperandsOutOfRangeAreRefused : Prop :=
  (∀ (i : Instr) (s : State), (∀ msg, i ≠ .frgSplit msg) →
    (exec i s = .next (s.answered [0x23#8]) ↔ i.wellFormed s.params = false)) ∧
  (∀ (msg : Bytes) (s : State),
    exec (.frgSplit msg) s ≠ .next (s.answered [0x23#8]) ∧
    (exec (.frgSplit msg) s = .next (s.answered [0x21#8]) ↔ (Instr.frgSplit msg).wellFormed s.params = false) ∧
    ((Instr.frgSplit msg).wellFormed s.params = false ↔
      255 < (msg.length + s.params.fragmentSize.toNat - 1) / s.params.fragmentSize.toNat))

/-- Nothing in this hardware faults or locks up (spec/60_exceptions.md R221, R229): every step from every state goes on. -/
def Obligations.EveryStepGoesOn : Prop :=
  ∀ s : State, ∃ t, step s = .next t

/-- The parameters are constants of the instance (spec/00_scope.md R2): no operation changes them. -/
def Obligations.ParametersNeverChange : Prop :=
  ∀ s t : State, step s = .next t → t.params = s.params

/-- The invariants of the reassembly buffer (spec/10_state.md R24) are kept by every step. -/
def Obligations.ReassemblyInvariantIsKept : Prop :=
  ∀ s t : State, s.RbInv → step s = .next t → t.RbInv

/-- Every buffer stays in canonical form (the model's representation, log 6). -/
def Obligations.BuffersStayCanonical : Prop :=
  ∀ s t : State, s.BuffersWf → step s = .next t → t.BuffersWf

/-- The whole invariant is kept by every step: parameters in range, canonical buffers, the reassembly buffer's invariants
(spec/10_state.md R24), and the Pending-Send Set's (R13, R15, R20, R21): nothing pending and the timer 0 outside a send;
in a send, at least one id below `tx_total` pending, one common counter below MAX_RETRY, the timer between 1 and
ACK_TIMEOUT. -/
def Obligations.InvariantIsKept : Prop :=
  ∀ s t : State, s.Inv → step s = .next t → t.Inv

/-- The invariant holds right after reset, for every instance with parameters in range. -/
def Obligations.InvariantHoldsAtReset : Prop :=
  State.reset.Inv ∧ ∀ p : Params, p.Valid → (State.resetOf p).Inv

/-- What reset leaves (spec/10_state.md R30, spec/70_reset_and_hazards.md R240): every element at the value the spec gives,
the parameters untouched, nothing emitted. -/
def Obligations.ResetLeavesTheResetState : Prop :=
  State.reset.AtReset ∧ State.reset.params.crcPoly = 0x8005#16 ∧
  ∀ s : State, ∃ t, exec .reset s = .next t ∧ t.AtReset ∧ t.params = s.params ∧ t.emitted = s.emitted

/-- STAT.RD (spec/45_system.md R201, spec/10_state.md R27): every index of the file answers its content, every other index
BAD_OPERAND, and reading changes nothing. -/
def Obligations.StatRdReadsTheStatusFile : Prop :=
  (∀ idx : Byte, decode (.cmd [0x41#8, idx]) = .ok (.statRd idx)) ∧
  (∀ args : Bytes, args.length ≠ 1 → decode (.cmd (0x41#8 :: args)) = .error .badOperand) ∧
  ∀ s : State,
    (∀ (idx : Byte) (v : Word),
      (idx, v) ∈
        [(0x00#8, s.arqState.code.setWidth 32),
         (0x01#8, BitVec.ofNat 32 (s.sendSeq.toNat + 2 * s.expectedRecvSeq.toNat)),
         (0x02#8, BitVec.ofNat 32 ((List.range 255).filter fun i => Bank.get s.pending i).length),
         (0x03#8, s.txTotal.setWidth 32),
         (0x05#8, s.ackTimer),
         (0x06#8, BitVec.ofNat 32 (s.rbTotal.toNat + 256 * s.rbKey.toNat + 65536 * s.rbActive.toNat)),
         (0x07#8, BitVec.ofNat 32 ((List.range 255).filter fun i => Bank.get s.rbValid i).length),
         (0x08#8, s.cntMalformed.setWidth 32),
         (0x09#8, s.cntIntegrity.setWidth 32),
         (0x0A#8, s.cntBadmeta.setWidth 32),
         (0x10#8, s.params.crcPoly.setWidth 32),
         (0x11#8, s.params.fragmentSize.setWidth 32),
         (0x12#8, s.params.fragThreshold.setWidth 32),
         (0x13#8, s.params.ackTimeout),
         (0x14#8, s.params.maxRetry.setWidth 32)] →
      exec (.statRd idx) s = .next (s.answered (0x00#8 :: be32 v))) ∧
    (∃ n : Nat, exec (.statRd 0x04#8) s = .next (s.answered (0x00#8 :: be32 (BitVec.ofNat 32 n))) ∧
      (∀ i < 255, Bank.get s.pending i = true → (Bank.get s.retryCnt i).toNat ≤ n) ∧
      (n = 0 ∨ ∃ i < 255, Bank.get s.pending i = true ∧ (Bank.get s.retryCnt i).toNat = n)) ∧
    (∀ idx : Byte, (0x0A#8 < idx ∧ idx < 0x10#8) ∨ 0x14#8 < idx →
      exec (.statRd idx) s = .next (s.answered [0x23#8]))

/-- The codes of `arq_state` (spec/10_state.md R13) and of the statuses (spec/60_exceptions.md R210). -/
def Obligations.CodesAreTheTables : Prop :=
  [ArqState.idle, .pending, .partiallyAcked, .acked, .failed].map ArqState.code = [0#3, 1#3, 2#3, 3#3, 4#3] ∧
  (∀ a : ArqState, a.inFlight = true ↔ a = .pending ∨ a = .partiallyAcked) ∧
  [Status.ok, .malformedShort, .integrity, .uncorrectableFec, .retryExhausted, .channelTimeout, .malformedOversize,
    .malformedLength, .badMeta, .busy, .tooLong, .illegalCmd, .badOperand].map Status.code =
    [0x00#8, 0x01#8, 0x02#8, 0x03#8, 0x04#8, 0x05#8, 0x11#8, 0x12#8, 0x13#8, 0x20#8, 0x21#8, 0x22#8, 0x23#8]
end

