-- ==== Sys2Proof/Laws/Bank.lean ====
section
/-! SUPPORT. Laws of the 255-element arrays. -/

namespace Sys2Proof.Machine

variable {α : Type} [Inhabited α]

theorem Bank.get_of_lt (b : Bank α) (i : Nat) (h : i < 255) : Bank.get b i = b[i] := by
  simp [Bank.get, h]

/-- Reading after one element was replaced. -/
theorem Bank.get_put (b : Bank α) (i : Nat) (x : α) (j : Nat) (h : i < 255) :
    Bank.get (Bank.put b i x) j = if j = i then x else Bank.get b j := by
  by_cases hj : j < 255
  · rw [Bank.get_of_lt _ _ hj, Bank.get_of_lt _ _ hj]
    simp only [Bank.put, Vector.getElem_setIfInBounds]
    by_cases e : j = i
    · subst e; simp
    · have : ¬ i = j := fun h => e h.symm
      simp [e, this]
  · have e : ¬ j = i := by omega
    simp [Bank.get, hj, e]

@[simp] theorem Bank.get_fill (x : α) (i : Nat) (h : i < 255) : Bank.get (Bank.fill x) i = x := by
  rw [Bank.get_of_lt _ _ h]
  simp [Bank.fill]

@[simp] theorem Bank.get_tabulate (f : Nat → α) (i : Nat) (h : i < 255) :
    Bank.get (Bank.tabulate f) i = f i := by
  rw [Bank.get_of_lt _ _ h]
  simp [Bank.tabulate]

/-- Two arrays with the same elements are the same array. -/
theorem Bank.ext (b c : Bank α) (h : ∀ i < 255, Bank.get b i = Bank.get c i) : b = c := by
  apply Vector.ext
  intro i hi
  have := h i hi
  rwa [Bank.get_of_lt _ _ hi, Bank.get_of_lt _ _ hi] at this

theorem Bank.allClear_iff (b : Bank Bool) :
    Bank.allClear b = true ↔ ∀ i < 255, Bank.get b i = false := by
  simp [Bank.allClear]

end Sys2Proof.Machine
end

