-- ==== Sys2Proof/Laws/Codec.lean ====
section
/-! SUPPORT. Small laws of byte order, bit streams and the coded stream. -/

namespace Sys2Proof.Machine

@[simp] theorem be16_length (v : Half) : (be16 v).length = 2 := rfl

@[simp] theorem be32_length (v : Word) : (be32 v).length = 4 := rfl

/-- Assembling the two bytes of a 16-bit value gives it back (spec/20_memory.md R42). -/
@[simp] theorem unBe16_split (v : Half) : unBe16 (v.extractLsb' 8 8) (v.extractLsb' 0 8) = v := by
  unfold unBe16
  ext i hi
  rw [BitVec.getElem_append]
  split
  · simp only [BitVec.getElem_extractLsb', Nat.zero_add]
    exact BitVec.getLsbD_eq_getElem hi
  · simp only [BitVec.getElem_extractLsb', show 8 + (i - 8) = i by omega]
    exact BitVec.getLsbD_eq_getElem hi

@[simp] theorem bitsMsb_length {w : Nat} (v : BitVec w) : (bitsMsb v).length = w := by simp [bitsMsb]

@[simp] theorem fecBits_length (b : Byte) : (fecBits b).length = 14 := by simp [fecBits]

/-- Fourteen coded bits a byte (spec/41_hamming.md R105). -/
@[simp] theorem fecBits_flatMap_length (d : Bytes) : (d.flatMap fecBits).length = 14 * d.length := by
  induction d with
  | nil => rfl
  | cons b d ih => simp [ih]; omega

@[simp] theorem bitStream_nil : bitStream [] = [] := rfl

@[simp] theorem bitStream_cons (b : Byte) (s : Bytes) : bitStream (b :: s) = bitsMsb b ++ bitStream s := by
  simp [bitStream]

/-- Eight bits a byte (spec/00_scope.md R7). -/
@[simp] theorem bitStream_length (s : Bytes) : (bitStream s).length = 8 * s.length := by
  induction s with
  | nil => rfl
  | cons b s ih => simp [ih]; omega

/-- The padded stream is a whole number of bytes (spec/41_hamming.md R105). -/
theorem padToBytes_length_mod (bs : List Bool) : (padToBytes bs).length % 8 = 0 := by
  simp [padToBytes]
  omega

@[simp] theorem crcFrom_nil (poly r : Half) : crcFrom poly r [] = r := rfl

@[simp] theorem crcFrom_cons (poly r : Half) (b : Byte) (d : Bytes) :
    crcFrom poly r (b :: d) = crcFrom poly (crcByte poly r b) d := rfl

theorem crcFrom_append (poly r : Half) (c d : Bytes) :
    crcFrom poly r (c ++ d) = crcFrom poly (crcFrom poly r c) d := by
  simp [crcFrom, List.foldl_append]

@[simp] theorem fecDecodeBits_length (n : Nat) (bs : List Bool) : (fecDecodeBits n bs).length = n := by
  induction n generalizing bs with
  | zero => rfl
  | succ n ih => simp [fecDecodeBits, ih]

/-- FEC decoding gives as many bytes as it is told (spec/41_hamming.md R107). -/
@[simp] theorem fecDecode_length (img : Bytes) (n : Nat) : (fecDecode img n).length = n := by
  simp [fecDecode]

end Sys2Proof.Machine
end

