-- ==== Sys2Proof/Laws/Memory.lean ====
section
/-! SUPPORT. Laws of buffers: reading after writing, and that every memory operation keeps the canonical form. -/

namespace Sys2Proof.Machine

theorem Memory.wf_nil : Memory.wf [] := ⟨List.Pairwise.nil, by simp⟩

/-- An offset below every listed one reads as unlisted. -/
theorem Memory.read_of_lt (m : Memory) (a : Nat) (h : ∀ c ∈ m, a < c.1) : m.read a = Memory.unlisted := by
  induction m with
  | nil => rfl
  | cons c m ih =>
    obtain ⟨b, w⟩ := c
    have hb : a < b := h (b, w) (by simp)
    have hne : b ≠ a := by omega
    simp only [Memory.read, hne, if_false]
    exact ih fun c hc => h c (by simp [hc])

/-- Every offset listed after one write was listed before, or is the one written. -/
theorem Memory.mem_write (m : Memory) (a : Nat) (v : Byte) (c : Host.Cell) (h : c ∈ m.write a v) :
    c ∈ m ∨ (c = (a, v) ∧ v ≠ Memory.unlisted) := by
  induction m with
  | nil =>
    unfold Memory.write at h
    split at h <;> simp_all
  | cons d m ih =>
    obtain ⟨b, w⟩ := d
    unfold Memory.write at h
    split at h
    · split at h <;> simp_all
      tauto
    · split at h
      · split at h <;> simp_all
        tauto
      · rcases List.mem_cons.mp h with rfl | h
        · simp
        · rcases ih h with h | h
          · simp [h]
          · exact Or.inr h

/-- One write keeps the canonical form. -/
theorem Memory.wf_write (m : Memory) (a : Nat) (v : Byte) (h : m.wf) : (m.write a v).wf := by
  refine ⟨?_, fun c hc => ?_⟩
  · obtain ⟨hp, -⟩ := h
    induction m with
    | nil =>
      unfold Memory.write
      split <;> simp
    | cons d m ih =>
      obtain ⟨b, w⟩ := d
      have hm := List.pairwise_cons.mp hp
      unfold Memory.write
      split
      · next hab =>
        split
        · exact hp
        · refine List.pairwise_cons.mpr ⟨fun c hc => ?_, hp⟩
          rcases List.mem_cons.mp hc with rfl | hc
          · exact hab
          · exact Nat.lt_trans hab (hm.1 c hc)
      · split
        · next hab =>
          subst hab
          split
          · exact hm.2
          · exact List.pairwise_cons.mpr ⟨fun c hc => hm.1 c hc, hm.2⟩
        · next h1 h2 =>
          refine List.pairwise_cons.mpr ⟨fun c hc => ?_, ih hm.2⟩
          rcases Memory.mem_write m a v c hc with hc | ⟨rfl, -⟩
          · exact hm.1 c hc
          · show b < a
            omega
  · rcases Memory.mem_write m a v c hc with hc | ⟨rfl, hv⟩
    · exact h.2 c hc
    · exact hv

/-- Reading after one write: the byte written at its offset, the old byte everywhere else. -/
theorem Memory.read_write (m : Memory) (a : Nat) (v : Byte) (x : Nat) (h : m.wf) :
    (m.write a v).read x = if x = a then v else m.read x := by
  obtain ⟨hp, -⟩ := h
  induction m with
  | nil =>
    unfold Memory.write
    split
    · next hv => by_cases hx : x = a <;> simp [Memory.read, hx, hv]
    · by_cases hx : x = a
      · simp [Memory.read, hx]
      · have : a ≠ x := fun h => hx h.symm
        simp [Memory.read, hx, this]
  | cons d m ih =>
    obtain ⟨b, w⟩ := d
    have hm := List.pairwise_cons.mp hp
    unfold Memory.write
    split
    · next hab =>
      split
      · next hv =>
        by_cases hx : x = a
        · subst hx
          have := Memory.read_of_lt ((b, w) :: m) x (fun c hc => by
            rcases List.mem_cons.mp hc with rfl | hc
            · exact hab
            · exact Nat.lt_trans hab (hm.1 c hc))
          simp [this, hv]
        · simp [hx]
      · by_cases hx : x = a
        · simp [Memory.read, hx]
        · have : a ≠ x := fun h => hx h.symm
          simp [Memory.read, hx, this]
    · split
      · next hab =>
        subst hab
        split
        · next hv =>
          by_cases hx : x = a
          · subst hx
            simp [Memory.read_of_lt m x hm.1, hv]
          · have : a ≠ x := fun h => hx h.symm
            simp [Memory.read, hx, this]
        · by_cases hx : x = a
          · simp [Memory.read, hx]
          · have : a ≠ x := fun h => hx h.symm
            simp [Memory.read, hx, this]
      · next h1 h2 =>
        by_cases hb : b = x
        · subst hb
          have : ¬ b = a := fun h => h2 h.symm
          simp [Memory.read, this]
        · simp [Memory.read, hb, ih hm.2]

/-- Writing a byte string keeps the canonical form. -/
theorem memWrite_wf (v : Bytes) (m : Memory) (off : Nat) (h : m.wf) : (memWrite m off v).wf := by
  induction v generalizing m off with
  | nil => exact h
  | cons b bs ih => exact ih _ _ (Memory.wf_write m off b h)

/-- Reading after a byte string was written: its bytes inside the span, the old bytes outside. -/
theorem read_memWrite (v : Bytes) (m : Memory) (off x : Nat) (h : m.wf) :
    (memWrite m off v).read x =
      if off ≤ x ∧ x < off + v.length then v.getD (x - off) 0x00#8 else m.read x := by
  induction v generalizing m off with
  | nil =>
    simp [memWrite]
  | cons b bs ih =>
    rw [memWrite, ih _ _ (Memory.wf_write m off b h), Memory.read_write m off b x h]
    rcases Nat.lt_trichotomy x off with hx | hx | hx
    · have h1 : ¬ (off + 1 ≤ x ∧ x < off + 1 + bs.length) := by omega
      have h2 : ¬ (off ≤ x ∧ x < off + (b :: bs).length) := by omega
      have h3 : x ≠ off := by omega
      simp only [h1, h2, h3, if_false]
    · subst hx
      simp
    · have h3 : x ≠ off := by omega
      obtain ⟨k, rfl⟩ : ∃ k, x = off + 1 + k := ⟨x - off - 1, by omega⟩
      have e : off + 1 + k - off = (off + 1 + k - (off + 1)) + 1 := by omega
      by_cases h1 : off + 1 ≤ off + 1 + k ∧ off + 1 + k < off + 1 + bs.length
      · have h2 : off ≤ off + 1 + k ∧ off + 1 + k < off + (b :: bs).length := by
          simp only [List.length_cons]; omega
        rw [if_pos h1, if_pos h2, e, List.getD_cons_succ]
      · have h2 : ¬ (off ≤ off + 1 + k ∧ off + 1 + k < off + (b :: bs).length) := by
          simp only [List.length_cons]; omega
        rw [if_neg h1, if_neg h3, if_neg h2]

@[simp] theorem memRead_length (m : Memory) (off n : Nat) : (memRead m off n).length = n := by
  simp [memRead]

/-- What was written from offset 0 reads back, whole or in part (spec/20_memory.md R45). -/
theorem memRead_memWrite (v : Bytes) (m : Memory) (off n : Nat) (h : m.wf) (hn : off + n ≤ v.length) :
    memRead (memWrite m 0 v) off n = slice v off n := by
  apply List.ext_getElem
  · simp [slice]
    omega
  · intro i h1 h2
    simp only [memRead_length] at h1
    have hi : off + i < v.length := by omega
    simp [memRead, slice, read_memWrite v m 0 _ h, hi]

end Sys2Proof.Machine
end

