-- ==== Sys2Proof/Laws/State.lean ====
section
/-! SUPPORT. One lemma per field per named update of the state, each true by rfl and a simp lemma, so that no proof
unfolds a record update. -/

namespace Sys2Proof.Machine

/-! ## emit -/

@[simp] theorem State.emit_params (s : State) (o : Output) : (s.emit o).params = s.params := rfl
@[simp] theorem State.emit_sendSeq (s : State) (o : Output) : (s.emit o).sendSeq = s.sendSeq := rfl
@[simp] theorem State.emit_expectedRecvSeq (s : State) (o : Output) :
    (s.emit o).expectedRecvSeq = s.expectedRecvSeq := rfl
@[simp] theorem State.emit_arqState (s : State) (o : Output) : (s.emit o).arqState = s.arqState := rfl
@[simp] theorem State.emit_txTotal (s : State) (o : Output) : (s.emit o).txTotal = s.txTotal := rfl
@[simp] theorem State.emit_txLen (s : State) (o : Output) : (s.emit o).txLen = s.txLen := rfl
@[simp] theorem State.emit_ackTimer (s : State) (o : Output) : (s.emit o).ackTimer = s.ackTimer := rfl
@[simp] theorem State.emit_pending (s : State) (o : Output) : (s.emit o).pending = s.pending := rfl
@[simp] theorem State.emit_retryCnt (s : State) (o : Output) : (s.emit o).retryCnt = s.retryCnt := rfl
@[simp] theorem State.emit_txMsg (s : State) (o : Output) : (s.emit o).txMsg = s.txMsg := rfl
@[simp] theorem State.emit_rbActive (s : State) (o : Output) : (s.emit o).rbActive = s.rbActive := rfl
@[simp] theorem State.emit_rbKey (s : State) (o : Output) : (s.emit o).rbKey = s.rbKey := rfl
@[simp] theorem State.emit_rbTotal (s : State) (o : Output) : (s.emit o).rbTotal = s.rbTotal := rfl
@[simp] theorem State.emit_rbValid (s : State) (o : Output) : (s.emit o).rbValid = s.rbValid := rfl
@[simp] theorem State.emit_rbLen (s : State) (o : Output) : (s.emit o).rbLen = s.rbLen := rfl
@[simp] theorem State.emit_rbData (s : State) (o : Output) : (s.emit o).rbData = s.rbData := rfl
@[simp] theorem State.emit_cntMalformed (s : State) (o : Output) : (s.emit o).cntMalformed = s.cntMalformed := rfl
@[simp] theorem State.emit_cntIntegrity (s : State) (o : Output) : (s.emit o).cntIntegrity = s.cntIntegrity := rfl
@[simp] theorem State.emit_cntBadmeta (s : State) (o : Output) : (s.emit o).cntBadmeta = s.cntBadmeta := rfl
@[simp] theorem State.emit_presented (s : State) (o : Output) : (s.emit o).presented = s.presented := rfl
@[simp] theorem State.emit_emitted (s : State) (o : Output) : (s.emit o).emitted = s.emitted ++ [o] := rfl

/-! ## emitAll -/

@[simp] theorem State.emitAll_params (s : State) (os : List Output) : (s.emitAll os).params = s.params := rfl
@[simp] theorem State.emitAll_sendSeq (s : State) (os : List Output) : (s.emitAll os).sendSeq = s.sendSeq := rfl
@[simp] theorem State.emitAll_expectedRecvSeq (s : State) (os : List Output) :
    (s.emitAll os).expectedRecvSeq = s.expectedRecvSeq := rfl
@[simp] theorem State.emitAll_arqState (s : State) (os : List Output) : (s.emitAll os).arqState = s.arqState := rfl
@[simp] theorem State.emitAll_txTotal (s : State) (os : List Output) : (s.emitAll os).txTotal = s.txTotal := rfl
@[simp] theorem State.emitAll_txLen (s : State) (os : List Output) : (s.emitAll os).txLen = s.txLen := rfl
@[simp] theorem State.emitAll_ackTimer (s : State) (os : List Output) : (s.emitAll os).ackTimer = s.ackTimer := rfl
@[simp] theorem State.emitAll_pending (s : State) (os : List Output) : (s.emitAll os).pending = s.pending := rfl
@[simp] theorem State.emitAll_retryCnt (s : State) (os : List Output) : (s.emitAll os).retryCnt = s.retryCnt := rfl
@[simp] theorem State.emitAll_txMsg (s : State) (os : List Output) : (s.emitAll os).txMsg = s.txMsg := rfl
@[simp] theorem State.emitAll_rbActive (s : State) (os : List Output) : (s.emitAll os).rbActive = s.rbActive := rfl
@[simp] theorem State.emitAll_rbKey (s : State) (os : List Output) : (s.emitAll os).rbKey = s.rbKey := rfl
@[simp] theorem State.emitAll_rbTotal (s : State) (os : List Output) : (s.emitAll os).rbTotal = s.rbTotal := rfl
@[simp] theorem State.emitAll_rbValid (s : State) (os : List Output) : (s.emitAll os).rbValid = s.rbValid := rfl
@[simp] theorem State.emitAll_rbLen (s : State) (os : List Output) : (s.emitAll os).rbLen = s.rbLen := rfl
@[simp] theorem State.emitAll_rbData (s : State) (os : List Output) : (s.emitAll os).rbData = s.rbData := rfl
@[simp] theorem State.emitAll_cntMalformed (s : State) (os : List Output) :
    (s.emitAll os).cntMalformed = s.cntMalformed := rfl
@[simp] theorem State.emitAll_cntIntegrity (s : State) (os : List Output) :
    (s.emitAll os).cntIntegrity = s.cntIntegrity := rfl
@[simp] theorem State.emitAll_cntBadmeta (s : State) (os : List Output) :
    (s.emitAll os).cntBadmeta = s.cntBadmeta := rfl
@[simp] theorem State.emitAll_presented (s : State) (os : List Output) : (s.emitAll os).presented = s.presented := rfl
@[simp] theorem State.emitAll_emitted (s : State) (os : List Output) : (s.emitAll os).emitted = s.emitted ++ os := rfl

/-! ## respond -/

@[simp] theorem State.respond_params (s : State) (r : Bytes) : (s.respond r).params = s.params := rfl
@[simp] theorem State.respond_sendSeq (s : State) (r : Bytes) : (s.respond r).sendSeq = s.sendSeq := rfl
@[simp] theorem State.respond_expectedRecvSeq (s : State) (r : Bytes) :
    (s.respond r).expectedRecvSeq = s.expectedRecvSeq := rfl
@[simp] theorem State.respond_arqState (s : State) (r : Bytes) : (s.respond r).arqState = s.arqState := rfl
@[simp] theorem State.respond_txTotal (s : State) (r : Bytes) : (s.respond r).txTotal = s.txTotal := rfl
@[simp] theorem State.respond_txLen (s : State) (r : Bytes) : (s.respond r).txLen = s.txLen := rfl
@[simp] theorem State.respond_ackTimer (s : State) (r : Bytes) : (s.respond r).ackTimer = s.ackTimer := rfl
@[simp] theorem State.respond_pending (s : State) (r : Bytes) : (s.respond r).pending = s.pending := rfl
@[simp] theorem State.respond_retryCnt (s : State) (r : Bytes) : (s.respond r).retryCnt = s.retryCnt := rfl
@[simp] theorem State.respond_txMsg (s : State) (r : Bytes) : (s.respond r).txMsg = s.txMsg := rfl
@[simp] theorem State.respond_rbActive (s : State) (r : Bytes) : (s.respond r).rbActive = s.rbActive := rfl
@[simp] theorem State.respond_rbKey (s : State) (r : Bytes) : (s.respond r).rbKey = s.rbKey := rfl
@[simp] theorem State.respond_rbTotal (s : State) (r : Bytes) : (s.respond r).rbTotal = s.rbTotal := rfl
@[simp] theorem State.respond_rbValid (s : State) (r : Bytes) : (s.respond r).rbValid = s.rbValid := rfl
@[simp] theorem State.respond_rbLen (s : State) (r : Bytes) : (s.respond r).rbLen = s.rbLen := rfl
@[simp] theorem State.respond_rbData (s : State) (r : Bytes) : (s.respond r).rbData = s.rbData := rfl
@[simp] theorem State.respond_cntMalformed (s : State) (r : Bytes) :
    (s.respond r).cntMalformed = s.cntMalformed := rfl
@[simp] theorem State.respond_cntIntegrity (s : State) (r : Bytes) :
    (s.respond r).cntIntegrity = s.cntIntegrity := rfl
@[simp] theorem State.respond_cntBadmeta (s : State) (r : Bytes) : (s.respond r).cntBadmeta = s.cntBadmeta := rfl
@[simp] theorem State.respond_presented (s : State) (r : Bytes) : (s.respond r).presented = s.presented := rfl
@[simp] theorem State.respond_emitted (s : State) (r : Bytes) :
    (s.respond r).emitted = s.emitted ++ [.rsp (Status.ok.code :: r)] := rfl

/-! ## raise -/

@[simp] theorem State.raise_params (s : State) (e : Status) : (s.raise e).params = s.params := rfl
@[simp] theorem State.raise_sendSeq (s : State) (e : Status) : (s.raise e).sendSeq = s.sendSeq := rfl
@[simp] theorem State.raise_expectedRecvSeq (s : State) (e : Status) :
    (s.raise e).expectedRecvSeq = s.expectedRecvSeq := rfl
@[simp] theorem State.raise_arqState (s : State) (e : Status) : (s.raise e).arqState = s.arqState := rfl
@[simp] theorem State.raise_txTotal (s : State) (e : Status) : (s.raise e).txTotal = s.txTotal := rfl
@[simp] theorem State.raise_txLen (s : State) (e : Status) : (s.raise e).txLen = s.txLen := rfl
@[simp] theorem State.raise_ackTimer (s : State) (e : Status) : (s.raise e).ackTimer = s.ackTimer := rfl
@[simp] theorem State.raise_pending (s : State) (e : Status) : (s.raise e).pending = s.pending := rfl
@[simp] theorem State.raise_retryCnt (s : State) (e : Status) : (s.raise e).retryCnt = s.retryCnt := rfl
@[simp] theorem State.raise_txMsg (s : State) (e : Status) : (s.raise e).txMsg = s.txMsg := rfl
@[simp] theorem State.raise_rbActive (s : State) (e : Status) : (s.raise e).rbActive = s.rbActive := rfl
@[simp] theorem State.raise_rbKey (s : State) (e : Status) : (s.raise e).rbKey = s.rbKey := rfl
@[simp] theorem State.raise_rbTotal (s : State) (e : Status) : (s.raise e).rbTotal = s.rbTotal := rfl
@[simp] theorem State.raise_rbValid (s : State) (e : Status) : (s.raise e).rbValid = s.rbValid := rfl
@[simp] theorem State.raise_rbLen (s : State) (e : Status) : (s.raise e).rbLen = s.rbLen := rfl
@[simp] theorem State.raise_rbData (s : State) (e : Status) : (s.raise e).rbData = s.rbData := rfl
@[simp] theorem State.raise_cntMalformed (s : State) (e : Status) : (s.raise e).cntMalformed = s.cntMalformed := rfl
@[simp] theorem State.raise_cntIntegrity (s : State) (e : Status) : (s.raise e).cntIntegrity = s.cntIntegrity := rfl
@[simp] theorem State.raise_cntBadmeta (s : State) (e : Status) : (s.raise e).cntBadmeta = s.cntBadmeta := rfl
@[simp] theorem State.raise_presented (s : State) (e : Status) : (s.raise e).presented = s.presented := rfl
@[simp] theorem State.raise_emitted (s : State) (e : Status) :
    (s.raise e).emitted = s.emitted ++ [.rsp [e.code]] := rfl

/-! ## dropMalformed -/

@[simp] theorem State.dropMalformed_params (s : State) : (s.dropMalformed).params = s.params := rfl
@[simp] theorem State.dropMalformed_sendSeq (s : State) : (s.dropMalformed).sendSeq = s.sendSeq := rfl
@[simp] theorem State.dropMalformed_expectedRecvSeq (s : State) :
    (s.dropMalformed).expectedRecvSeq = s.expectedRecvSeq := rfl
@[simp] theorem State.dropMalformed_arqState (s : State) : (s.dropMalformed).arqState = s.arqState := rfl
@[simp] theorem State.dropMalformed_txTotal (s : State) : (s.dropMalformed).txTotal = s.txTotal := rfl
@[simp] theorem State.dropMalformed_txLen (s : State) : (s.dropMalformed).txLen = s.txLen := rfl
@[simp] theorem State.dropMalformed_ackTimer (s : State) : (s.dropMalformed).ackTimer = s.ackTimer := rfl
@[simp] theorem State.dropMalformed_pending (s : State) : (s.dropMalformed).pending = s.pending := rfl
@[simp] theorem State.dropMalformed_retryCnt (s : State) : (s.dropMalformed).retryCnt = s.retryCnt := rfl
@[simp] theorem State.dropMalformed_txMsg (s : State) : (s.dropMalformed).txMsg = s.txMsg := rfl
@[simp] theorem State.dropMalformed_rbActive (s : State) : (s.dropMalformed).rbActive = s.rbActive := rfl
@[simp] theorem State.dropMalformed_rbKey (s : State) : (s.dropMalformed).rbKey = s.rbKey := rfl
@[simp] theorem State.dropMalformed_rbTotal (s : State) : (s.dropMalformed).rbTotal = s.rbTotal := rfl
@[simp] theorem State.dropMalformed_rbValid (s : State) : (s.dropMalformed).rbValid = s.rbValid := rfl
@[simp] theorem State.dropMalformed_rbLen (s : State) : (s.dropMalformed).rbLen = s.rbLen := rfl
@[simp] theorem State.dropMalformed_rbData (s : State) : (s.dropMalformed).rbData = s.rbData := rfl
@[simp] theorem State.dropMalformed_cntMalformed (s : State) :
    (s.dropMalformed).cntMalformed = satInc s.cntMalformed := rfl
@[simp] theorem State.dropMalformed_cntIntegrity (s : State) : (s.dropMalformed).cntIntegrity = s.cntIntegrity := rfl
@[simp] theorem State.dropMalformed_cntBadmeta (s : State) : (s.dropMalformed).cntBadmeta = s.cntBadmeta := rfl
@[simp] theorem State.dropMalformed_presented (s : State) : (s.dropMalformed).presented = s.presented := rfl
@[simp] theorem State.dropMalformed_emitted (s : State) : (s.dropMalformed).emitted = s.emitted := rfl

/-! ## dropIntegrity -/

@[simp] theorem State.dropIntegrity_params (s : State) : (s.dropIntegrity).params = s.params := rfl
@[simp] theorem State.dropIntegrity_sendSeq (s : State) : (s.dropIntegrity).sendSeq = s.sendSeq := rfl
@[simp] theorem State.dropIntegrity_expectedRecvSeq (s : State) :
    (s.dropIntegrity).expectedRecvSeq = s.expectedRecvSeq := rfl
@[simp] theorem State.dropIntegrity_arqState (s : State) : (s.dropIntegrity).arqState = s.arqState := rfl
@[simp] theorem State.dropIntegrity_txTotal (s : State) : (s.dropIntegrity).txTotal = s.txTotal := rfl
@[simp] theorem State.dropIntegrity_txLen (s : State) : (s.dropIntegrity).txLen = s.txLen := rfl
@[simp] theorem State.dropIntegrity_ackTimer (s : State) : (s.dropIntegrity).ackTimer = s.ackTimer := rfl
@[simp] theorem State.dropIntegrity_pending (s : State) : (s.dropIntegrity).pending = s.pending := rfl
@[simp] theorem State.dropIntegrity_retryCnt (s : State) : (s.dropIntegrity).retryCnt = s.retryCnt := rfl
@[simp] theorem State.dropIntegrity_txMsg (s : State) : (s.dropIntegrity).txMsg = s.txMsg := rfl
@[simp] theorem State.dropIntegrity_rbActive (s : State) : (s.dropIntegrity).rbActive = s.rbActive := rfl
@[simp] theorem State.dropIntegrity_rbKey (s : State) : (s.dropIntegrity).rbKey = s.rbKey := rfl
@[simp] theorem State.dropIntegrity_rbTotal (s : State) : (s.dropIntegrity).rbTotal = s.rbTotal := rfl
@[simp] theorem State.dropIntegrity_rbValid (s : State) : (s.dropIntegrity).rbValid = s.rbValid := rfl
@[simp] theorem State.dropIntegrity_rbLen (s : State) : (s.dropIntegrity).rbLen = s.rbLen := rfl
@[simp] theorem State.dropIntegrity_rbData (s : State) : (s.dropIntegrity).rbData = s.rbData := rfl
@[simp] theorem State.dropIntegrity_cntMalformed (s : State) : (s.dropIntegrity).cntMalformed = s.cntMalformed := rfl
@[simp] theorem State.dropIntegrity_cntIntegrity (s : State) :
    (s.dropIntegrity).cntIntegrity = satInc s.cntIntegrity := rfl
@[simp] theorem State.dropIntegrity_cntBadmeta (s : State) : (s.dropIntegrity).cntBadmeta = s.cntBadmeta := rfl
@[simp] theorem State.dropIntegrity_presented (s : State) : (s.dropIntegrity).presented = s.presented := rfl
@[simp] theorem State.dropIntegrity_emitted (s : State) : (s.dropIntegrity).emitted = s.emitted := rfl

/-! ## dropBadmeta -/

@[simp] theorem State.dropBadmeta_params (s : State) : (s.dropBadmeta).params = s.params := rfl
@[simp] theorem State.dropBadmeta_sendSeq (s : State) : (s.dropBadmeta).sendSeq = s.sendSeq := rfl
@[simp] theorem State.dropBadmeta_expectedRecvSeq (s : State) :
    (s.dropBadmeta).expectedRecvSeq = s.expectedRecvSeq := rfl
@[simp] theorem State.dropBadmeta_arqState (s : State) : (s.dropBadmeta).arqState = s.arqState := rfl
@[simp] theorem State.dropBadmeta_txTotal (s : State) : (s.dropBadmeta).txTotal = s.txTotal := rfl
@[simp] theorem State.dropBadmeta_txLen (s : State) : (s.dropBadmeta).txLen = s.txLen := rfl
@[simp] theorem State.dropBadmeta_ackTimer (s : State) : (s.dropBadmeta).ackTimer = s.ackTimer := rfl
@[simp] theorem State.dropBadmeta_pending (s : State) : (s.dropBadmeta).pending = s.pending := rfl
@[simp] theorem State.dropBadmeta_retryCnt (s : State) : (s.dropBadmeta).retryCnt = s.retryCnt := rfl
@[simp] theorem State.dropBadmeta_txMsg (s : State) : (s.dropBadmeta).txMsg = s.txMsg := rfl
@[simp] theorem State.dropBadmeta_rbActive (s : State) : (s.dropBadmeta).rbActive = s.rbActive := rfl
@[simp] theorem State.dropBadmeta_rbKey (s : State) : (s.dropBadmeta).rbKey = s.rbKey := rfl
@[simp] theorem State.dropBadmeta_rbTotal (s : State) : (s.dropBadmeta).rbTotal = s.rbTotal := rfl
@[simp] theorem State.dropBadmeta_rbValid (s : State) : (s.dropBadmeta).rbValid = s.rbValid := rfl
@[simp] theorem State.dropBadmeta_rbLen (s : State) : (s.dropBadmeta).rbLen = s.rbLen := rfl
@[simp] theorem State.dropBadmeta_rbData (s : State) : (s.dropBadmeta).rbData = s.rbData := rfl
@[simp] theorem State.dropBadmeta_cntMalformed (s : State) : (s.dropBadmeta).cntMalformed = s.cntMalformed := rfl
@[simp] theorem State.dropBadmeta_cntIntegrity (s : State) : (s.dropBadmeta).cntIntegrity = s.cntIntegrity := rfl
@[simp] theorem State.dropBadmeta_cntBadmeta (s : State) : (s.dropBadmeta).cntBadmeta = satInc s.cntBadmeta := rfl
@[simp] theorem State.dropBadmeta_presented (s : State) : (s.dropBadmeta).presented = s.presented := rfl
@[simp] theorem State.dropBadmeta_emitted (s : State) : (s.dropBadmeta).emitted = s.emitted := rfl

/-! ## insertFragment -/

@[simp] theorem State.insertFragment_params (s : State) (fid : Byte) (d : Bytes) :
    (s.insertFragment fid d).params = s.params := rfl
@[simp] theorem State.insertFragment_sendSeq (s : State) (fid : Byte) (d : Bytes) :
    (s.insertFragment fid d).sendSeq = s.sendSeq := rfl
@[simp] theorem State.insertFragment_expectedRecvSeq (s : State) (fid : Byte) (d : Bytes) :
    (s.insertFragment fid d).expectedRecvSeq = s.expectedRecvSeq := rfl
@[simp] theorem State.insertFragment_arqState (s : State) (fid : Byte) (d : Bytes) :
    (s.insertFragment fid d).arqState = s.arqState := rfl
@[simp] theorem State.insertFragment_txTotal (s : State) (fid : Byte) (d : Bytes) :
    (s.insertFragment fid d).txTotal = s.txTotal := rfl
@[simp] theorem State.insertFragment_txLen (s : State) (fid : Byte) (d : Bytes) :
    (s.insertFragment fid d).txLen = s.txLen := rfl
@[simp] theorem State.insertFragment_ackTimer (s : State) (fid : Byte) (d : Bytes) :
    (s.insertFragment fid d).ackTimer = s.ackTimer := rfl
@[simp] theorem State.insertFragment_pending (s : State) (fid : Byte) (d : Bytes) :
    (s.insertFragment fid d).pending = s.pending := rfl
@[simp] theorem State.insertFragment_retryCnt (s : State) (fid : Byte) (d : Bytes) :
    (s.insertFragment fid d).retryCnt = s.retryCnt := rfl
@[simp] theorem State.insertFragment_txMsg (s : State) (fid : Byte) (d : Bytes) :
    (s.insertFragment fid d).txMsg = s.txMsg := rfl
@[simp] theorem State.insertFragment_rbActive (s : State) (fid : Byte) (d : Bytes) :
    (s.insertFragment fid d).rbActive = s.rbActive := rfl
@[simp] theorem State.insertFragment_rbKey (s : State) (fid : Byte) (d : Bytes) :
    (s.insertFragment fid d).rbKey = s.rbKey := rfl
@[simp] theorem State.insertFragment_rbTotal (s : State) (fid : Byte) (d : Bytes) :
    (s.insertFragment fid d).rbTotal = s.rbTotal := rfl
@[simp] theorem State.insertFragment_rbValid (s : State) (fid : Byte) (d : Bytes) :
    (s.insertFragment fid d).rbValid = Bank.put s.rbValid fid.toNat true := rfl
@[simp] theorem State.insertFragment_rbLen (s : State) (fid : Byte) (d : Bytes) :
    (s.insertFragment fid d).rbLen = Bank.put s.rbLen fid.toNat (len16 d) := rfl
@[simp] theorem State.insertFragment_rbData (s : State) (fid : Byte) (d : Bytes) :
    (s.insertFragment fid d).rbData = Bank.put s.rbData fid.toNat (memWrite (Bank.get s.rbData fid.toNat) 0 d) := rfl
@[simp] theorem State.insertFragment_cntMalformed (s : State) (fid : Byte) (d : Bytes) :
    (s.insertFragment fid d).cntMalformed = s.cntMalformed := rfl
@[simp] theorem State.insertFragment_cntIntegrity (s : State) (fid : Byte) (d : Bytes) :
    (s.insertFragment fid d).cntIntegrity = s.cntIntegrity := rfl
@[simp] theorem State.insertFragment_cntBadmeta (s : State) (fid : Byte) (d : Bytes) :
    (s.insertFragment fid d).cntBadmeta = s.cntBadmeta := rfl
@[simp] theorem State.insertFragment_presented (s : State) (fid : Byte) (d : Bytes) :
    (s.insertFragment fid d).presented = s.presented := rfl
@[simp] theorem State.insertFragment_emitted (s : State) (fid : Byte) (d : Bytes) :
    (s.insertFragment fid d).emitted = s.emitted := rfl

/-! ## destroyRb -/

@[simp] theorem State.destroyRb_params (s : State) : (s.destroyRb).params = s.params := rfl
@[simp] theorem State.destroyRb_sendSeq (s : State) : (s.destroyRb).sendSeq = s.sendSeq := rfl
@[simp] theorem State.destroyRb_expectedRecvSeq (s : State) : (s.destroyRb).expectedRecvSeq = s.expectedRecvSeq := rfl
@[simp] theorem State.destroyRb_arqState (s : State) : (s.destroyRb).arqState = s.arqState := rfl
@[simp] theorem State.destroyRb_txTotal (s : State) : (s.destroyRb).txTotal = s.txTotal := rfl
@[simp] theorem State.destroyRb_txLen (s : State) : (s.destroyRb).txLen = s.txLen := rfl
@[simp] theorem State.destroyRb_ackTimer (s : State) : (s.destroyRb).ackTimer = s.ackTimer := rfl
@[simp] theorem State.destroyRb_pending (s : State) : (s.destroyRb).pending = s.pending := rfl
@[simp] theorem State.destroyRb_retryCnt (s : State) : (s.destroyRb).retryCnt = s.retryCnt := rfl
@[simp] theorem State.destroyRb_txMsg (s : State) : (s.destroyRb).txMsg = s.txMsg := rfl
@[simp] theorem State.destroyRb_rbActive (s : State) : (s.destroyRb).rbActive = false := rfl
@[simp] theorem State.destroyRb_rbKey (s : State) : (s.destroyRb).rbKey = s.rbKey := rfl
@[simp] theorem State.destroyRb_rbTotal (s : State) : (s.destroyRb).rbTotal = s.rbTotal := rfl
@[simp] theorem State.destroyRb_rbValid (s : State) : (s.destroyRb).rbValid = Bank.fill false := rfl
@[simp] theorem State.destroyRb_rbLen (s : State) : (s.destroyRb).rbLen = s.rbLen := rfl
@[simp] theorem State.destroyRb_rbData (s : State) : (s.destroyRb).rbData = s.rbData := rfl
@[simp] theorem State.destroyRb_cntMalformed (s : State) : (s.destroyRb).cntMalformed = s.cntMalformed := rfl
@[simp] theorem State.destroyRb_cntIntegrity (s : State) : (s.destroyRb).cntIntegrity = s.cntIntegrity := rfl
@[simp] theorem State.destroyRb_cntBadmeta (s : State) : (s.destroyRb).cntBadmeta = s.cntBadmeta := rfl
@[simp] theorem State.destroyRb_presented (s : State) : (s.destroyRb).presented = s.presented := rfl
@[simp] theorem State.destroyRb_emitted (s : State) : (s.destroyRb).emitted = s.emitted := rfl

/-! ## loadSend -/

@[simp] theorem State.loadSend_params (s : State) (msg : Bytes) : (s.loadSend msg).params = s.params := rfl
@[simp] theorem State.loadSend_sendSeq (s : State) (msg : Bytes) : (s.loadSend msg).sendSeq = s.sendSeq := rfl
@[simp] theorem State.loadSend_expectedRecvSeq (s : State) (msg : Bytes) :
    (s.loadSend msg).expectedRecvSeq = s.expectedRecvSeq := rfl
@[simp] theorem State.loadSend_arqState (s : State) (msg : Bytes) : (s.loadSend msg).arqState = .pending := rfl
@[simp] theorem State.loadSend_txTotal (s : State) (msg : Bytes) :
    (s.loadSend msg).txTotal = BitVec.ofNat 8 (sendTotal s.params msg) := rfl
@[simp] theorem State.loadSend_txLen (s : State) (msg : Bytes) : (s.loadSend msg).txLen = len32 msg := rfl
@[simp] theorem State.loadSend_ackTimer (s : State) (msg : Bytes) : (s.loadSend msg).ackTimer = s.ackTimer := rfl
@[simp] theorem State.loadSend_pending (s : State) (msg : Bytes) :
    (s.loadSend msg).pending = Bank.tabulate fun i => decide (i < sendTotal s.params msg) := rfl
@[simp] theorem State.loadSend_retryCnt (s : State) (msg : Bytes) : (s.loadSend msg).retryCnt = Bank.fill 0#8 := rfl
@[simp] theorem State.loadSend_txMsg (s : State) (msg : Bytes) :
    (s.loadSend msg).txMsg = memWrite s.txMsg 0 msg := rfl
@[simp] theorem State.loadSend_rbActive (s : State) (msg : Bytes) : (s.loadSend msg).rbActive = s.rbActive := rfl
@[simp] theorem State.loadSend_rbKey (s : State) (msg : Bytes) : (s.loadSend msg).rbKey = s.rbKey := rfl
@[simp] theorem State.loadSend_rbTotal (s : State) (msg : Bytes) : (s.loadSend msg).rbTotal = s.rbTotal := rfl
@[simp] theorem State.loadSend_rbValid (s : State) (msg : Bytes) : (s.loadSend msg).rbValid = s.rbValid := rfl
@[simp] theorem State.loadSend_rbLen (s : State) (msg : Bytes) : (s.loadSend msg).rbLen = s.rbLen := rfl
@[simp] theorem State.loadSend_rbData (s : State) (msg : Bytes) : (s.loadSend msg).rbData = s.rbData := rfl
@[simp] theorem State.loadSend_cntMalformed (s : State) (msg : Bytes) :
    (s.loadSend msg).cntMalformed = s.cntMalformed := rfl
@[simp] theorem State.loadSend_cntIntegrity (s : State) (msg : Bytes) :
    (s.loadSend msg).cntIntegrity = s.cntIntegrity := rfl
@[simp] theorem State.loadSend_cntBadmeta (s : State) (msg : Bytes) :
    (s.loadSend msg).cntBadmeta = s.cntBadmeta := rfl
@[simp] theorem State.loadSend_presented (s : State) (msg : Bytes) : (s.loadSend msg).presented = s.presented := rfl
@[simp] theorem State.loadSend_emitted (s : State) (msg : Bytes) : (s.loadSend msg).emitted = s.emitted := rfl

/-! ## loadTimer -/

@[simp] theorem State.loadTimer_params (s : State) : (s.loadTimer).params = s.params := rfl
@[simp] theorem State.loadTimer_sendSeq (s : State) : (s.loadTimer).sendSeq = s.sendSeq := rfl
@[simp] theorem State.loadTimer_expectedRecvSeq (s : State) : (s.loadTimer).expectedRecvSeq = s.expectedRecvSeq := rfl
@[simp] theorem State.loadTimer_arqState (s : State) : (s.loadTimer).arqState = s.arqState := rfl
@[simp] theorem State.loadTimer_txTotal (s : State) : (s.loadTimer).txTotal = s.txTotal := rfl
@[simp] theorem State.loadTimer_txLen (s : State) : (s.loadTimer).txLen = s.txLen := rfl
@[simp] theorem State.loadTimer_ackTimer (s : State) : (s.loadTimer).ackTimer = s.params.ackTimeout := rfl
@[simp] theorem State.loadTimer_pending (s : State) : (s.loadTimer).pending = s.pending := rfl
@[simp] theorem State.loadTimer_retryCnt (s : State) : (s.loadTimer).retryCnt = s.retryCnt := rfl
@[simp] theorem State.loadTimer_txMsg (s : State) : (s.loadTimer).txMsg = s.txMsg := rfl
@[simp] theorem State.loadTimer_rbActive (s : State) : (s.loadTimer).rbActive = s.rbActive := rfl
@[simp] theorem State.loadTimer_rbKey (s : State) : (s.loadTimer).rbKey = s.rbKey := rfl
@[simp] theorem State.loadTimer_rbTotal (s : State) : (s.loadTimer).rbTotal = s.rbTotal := rfl
@[simp] theorem State.loadTimer_rbValid (s : State) : (s.loadTimer).rbValid = s.rbValid := rfl
@[simp] theorem State.loadTimer_rbLen (s : State) : (s.loadTimer).rbLen = s.rbLen := rfl
@[simp] theorem State.loadTimer_rbData (s : State) : (s.loadTimer).rbData = s.rbData := rfl
@[simp] theorem State.loadTimer_cntMalformed (s : State) : (s.loadTimer).cntMalformed = s.cntMalformed := rfl
@[simp] theorem State.loadTimer_cntIntegrity (s : State) : (s.loadTimer).cntIntegrity = s.cntIntegrity := rfl
@[simp] theorem State.loadTimer_cntBadmeta (s : State) : (s.loadTimer).cntBadmeta = s.cntBadmeta := rfl
@[simp] theorem State.loadTimer_presented (s : State) : (s.loadTimer).presented = s.presented := rfl
@[simp] theorem State.loadTimer_emitted (s : State) : (s.loadTimer).emitted = s.emitted := rfl

/-! ## clearPending -/

@[simp] theorem State.clearPending_params (s : State) (fid : Byte) : (s.clearPending fid).params = s.params := rfl
@[simp] theorem State.clearPending_sendSeq (s : State) (fid : Byte) : (s.clearPending fid).sendSeq = s.sendSeq := rfl
@[simp] theorem State.clearPending_expectedRecvSeq (s : State) (fid : Byte) :
    (s.clearPending fid).expectedRecvSeq = s.expectedRecvSeq := rfl
@[simp] theorem State.clearPending_arqState (s : State) (fid : Byte) :
    (s.clearPending fid).arqState = s.arqState := rfl
@[simp] theorem State.clearPending_txTotal (s : State) (fid : Byte) : (s.clearPending fid).txTotal = s.txTotal := rfl
@[simp] theorem State.clearPending_txLen (s : State) (fid : Byte) : (s.clearPending fid).txLen = s.txLen := rfl
@[simp] theorem State.clearPending_ackTimer (s : State) (fid : Byte) :
    (s.clearPending fid).ackTimer = s.ackTimer := rfl
@[simp] theorem State.clearPending_pending (s : State) (fid : Byte) :
    (s.clearPending fid).pending = Bank.put s.pending fid.toNat false := rfl
@[simp] theorem State.clearPending_retryCnt (s : State) (fid : Byte) :
    (s.clearPending fid).retryCnt = Bank.put s.retryCnt fid.toNat 0#8 := rfl
@[simp] theorem State.clearPending_txMsg (s : State) (fid : Byte) : (s.clearPending fid).txMsg = s.txMsg := rfl
@[simp] theorem State.clearPending_rbActive (s : State) (fid : Byte) :
    (s.clearPending fid).rbActive = s.rbActive := rfl
@[simp] theorem State.clearPending_rbKey (s : State) (fid : Byte) : (s.clearPending fid).rbKey = s.rbKey := rfl
@[simp] theorem State.clearPending_rbTotal (s : State) (fid : Byte) : (s.clearPending fid).rbTotal = s.rbTotal := rfl
@[simp] theorem State.clearPending_rbValid (s : State) (fid : Byte) : (s.clearPending fid).rbValid = s.rbValid := rfl
@[simp] theorem State.clearPending_rbLen (s : State) (fid : Byte) : (s.clearPending fid).rbLen = s.rbLen := rfl
@[simp] theorem State.clearPending_rbData (s : State) (fid : Byte) : (s.clearPending fid).rbData = s.rbData := rfl
@[simp] theorem State.clearPending_cntMalformed (s : State) (fid : Byte) :
    (s.clearPending fid).cntMalformed = s.cntMalformed := rfl
@[simp] theorem State.clearPending_cntIntegrity (s : State) (fid : Byte) :
    (s.clearPending fid).cntIntegrity = s.cntIntegrity := rfl
@[simp] theorem State.clearPending_cntBadmeta (s : State) (fid : Byte) :
    (s.clearPending fid).cntBadmeta = s.cntBadmeta := rfl
@[simp] theorem State.clearPending_presented (s : State) (fid : Byte) :
    (s.clearPending fid).presented = s.presented := rfl
@[simp] theorem State.clearPending_emitted (s : State) (fid : Byte) : (s.clearPending fid).emitted = s.emitted := rfl

/-! ## sendSucceeds -/

@[simp] theorem State.sendSucceeds_params (s : State) : (s.sendSucceeds).params = s.params := rfl
@[simp] theorem State.sendSucceeds_sendSeq (s : State) : (s.sendSucceeds).sendSeq = s.sendSeq ^^^ 1#1 := rfl
@[simp] theorem State.sendSucceeds_expectedRecvSeq (s : State) :
    (s.sendSucceeds).expectedRecvSeq = s.expectedRecvSeq := rfl
@[simp] theorem State.sendSucceeds_arqState (s : State) : (s.sendSucceeds).arqState = .acked := rfl
@[simp] theorem State.sendSucceeds_txTotal (s : State) : (s.sendSucceeds).txTotal = s.txTotal := rfl
@[simp] theorem State.sendSucceeds_txLen (s : State) : (s.sendSucceeds).txLen = s.txLen := rfl
@[simp] theorem State.sendSucceeds_ackTimer (s : State) : (s.sendSucceeds).ackTimer = 0#32 := rfl
@[simp] theorem State.sendSucceeds_pending (s : State) : (s.sendSucceeds).pending = s.pending := rfl
@[simp] theorem State.sendSucceeds_retryCnt (s : State) : (s.sendSucceeds).retryCnt = Bank.fill 0#8 := rfl
@[simp] theorem State.sendSucceeds_txMsg (s : State) : (s.sendSucceeds).txMsg = s.txMsg := rfl
@[simp] theorem State.sendSucceeds_rbActive (s : State) : (s.sendSucceeds).rbActive = s.rbActive := rfl
@[simp] theorem State.sendSucceeds_rbKey (s : State) : (s.sendSucceeds).rbKey = s.rbKey := rfl
@[simp] theorem State.sendSucceeds_rbTotal (s : State) : (s.sendSucceeds).rbTotal = s.rbTotal := rfl
@[simp] theorem State.sendSucceeds_rbValid (s : State) : (s.sendSucceeds).rbValid = s.rbValid := rfl
@[simp] theorem State.sendSucceeds_rbLen (s : State) : (s.sendSucceeds).rbLen = s.rbLen := rfl
@[simp] theorem State.sendSucceeds_rbData (s : State) : (s.sendSucceeds).rbData = s.rbData := rfl
@[simp] theorem State.sendSucceeds_cntMalformed (s : State) : (s.sendSucceeds).cntMalformed = s.cntMalformed := rfl
@[simp] theorem State.sendSucceeds_cntIntegrity (s : State) : (s.sendSucceeds).cntIntegrity = s.cntIntegrity := rfl
@[simp] theorem State.sendSucceeds_cntBadmeta (s : State) : (s.sendSucceeds).cntBadmeta = s.cntBadmeta := rfl
@[simp] theorem State.sendSucceeds_presented (s : State) : (s.sendSucceeds).presented = s.presented := rfl
@[simp] theorem State.sendSucceeds_emitted (s : State) :
    (s.sendSucceeds).emitted = s.emitted ++ [.evt sendDone Status.ok.code] := rfl

/-! ## sendFails -/

@[simp] theorem State.sendFails_params (s : State) : (s.sendFails).params = s.params := rfl
@[simp] theorem State.sendFails_sendSeq (s : State) : (s.sendFails).sendSeq = s.sendSeq := rfl
@[simp] theorem State.sendFails_expectedRecvSeq (s : State) : (s.sendFails).expectedRecvSeq = s.expectedRecvSeq := rfl
@[simp] theorem State.sendFails_arqState (s : State) : (s.sendFails).arqState = .failed := rfl
@[simp] theorem State.sendFails_txTotal (s : State) : (s.sendFails).txTotal = s.txTotal := rfl
@[simp] theorem State.sendFails_txLen (s : State) : (s.sendFails).txLen = s.txLen := rfl
@[simp] theorem State.sendFails_ackTimer (s : State) : (s.sendFails).ackTimer = 0#32 := rfl
@[simp] theorem State.sendFails_pending (s : State) : (s.sendFails).pending = Bank.fill false := rfl
@[simp] theorem State.sendFails_retryCnt (s : State) : (s.sendFails).retryCnt = Bank.fill 0#8 := rfl
@[simp] theorem State.sendFails_txMsg (s : State) : (s.sendFails).txMsg = s.txMsg := rfl
@[simp] theorem State.sendFails_rbActive (s : State) : (s.sendFails).rbActive = s.rbActive := rfl
@[simp] theorem State.sendFails_rbKey (s : State) : (s.sendFails).rbKey = s.rbKey := rfl
@[simp] theorem State.sendFails_rbTotal (s : State) : (s.sendFails).rbTotal = s.rbTotal := rfl
@[simp] theorem State.sendFails_rbValid (s : State) : (s.sendFails).rbValid = s.rbValid := rfl
@[simp] theorem State.sendFails_rbLen (s : State) : (s.sendFails).rbLen = s.rbLen := rfl
@[simp] theorem State.sendFails_rbData (s : State) : (s.sendFails).rbData = s.rbData := rfl
@[simp] theorem State.sendFails_cntMalformed (s : State) : (s.sendFails).cntMalformed = s.cntMalformed := rfl
@[simp] theorem State.sendFails_cntIntegrity (s : State) : (s.sendFails).cntIntegrity = s.cntIntegrity := rfl
@[simp] theorem State.sendFails_cntBadmeta (s : State) : (s.sendFails).cntBadmeta = s.cntBadmeta := rfl
@[simp] theorem State.sendFails_presented (s : State) : (s.sendFails).presented = s.presented := rfl
@[simp] theorem State.sendFails_emitted (s : State) :
    (s.sendFails).emitted = s.emitted ++ [.evt sendDone Status.retryExhausted.code] := rfl

/-! ## bumpRetries -/

@[simp] theorem State.bumpRetries_params (s : State) : (s.bumpRetries).params = s.params := rfl
@[simp] theorem State.bumpRetries_sendSeq (s : State) : (s.bumpRetries).sendSeq = s.sendSeq := rfl
@[simp] theorem State.bumpRetries_expectedRecvSeq (s : State) :
    (s.bumpRetries).expectedRecvSeq = s.expectedRecvSeq := rfl
@[simp] theorem State.bumpRetries_arqState (s : State) : (s.bumpRetries).arqState = s.arqState := rfl
@[simp] theorem State.bumpRetries_txTotal (s : State) : (s.bumpRetries).txTotal = s.txTotal := rfl
@[simp] theorem State.bumpRetries_txLen (s : State) : (s.bumpRetries).txLen = s.txLen := rfl
@[simp] theorem State.bumpRetries_ackTimer (s : State) : (s.bumpRetries).ackTimer = s.ackTimer := rfl
@[simp] theorem State.bumpRetries_pending (s : State) : (s.bumpRetries).pending = s.pending := rfl
@[simp] theorem State.bumpRetries_retryCnt (s : State) :
    (s.bumpRetries).retryCnt = Bank.tabulate fun i =>
      if decide (i < s.txTotal.toNat) && Bank.get s.pending i then Bank.get s.retryCnt i + 1#8
      else Bank.get s.retryCnt i := rfl
@[simp] theorem State.bumpRetries_txMsg (s : State) : (s.bumpRetries).txMsg = s.txMsg := rfl
@[simp] theorem State.bumpRetries_rbActive (s : State) : (s.bumpRetries).rbActive = s.rbActive := rfl
@[simp] theorem State.bumpRetries_rbKey (s : State) : (s.bumpRetries).rbKey = s.rbKey := rfl
@[simp] theorem State.bumpRetries_rbTotal (s : State) : (s.bumpRetries).rbTotal = s.rbTotal := rfl
@[simp] theorem State.bumpRetries_rbValid (s : State) : (s.bumpRetries).rbValid = s.rbValid := rfl
@[simp] theorem State.bumpRetries_rbLen (s : State) : (s.bumpRetries).rbLen = s.rbLen := rfl
@[simp] theorem State.bumpRetries_rbData (s : State) : (s.bumpRetries).rbData = s.rbData := rfl
@[simp] theorem State.bumpRetries_cntMalformed (s : State) : (s.bumpRetries).cntMalformed = s.cntMalformed := rfl
@[simp] theorem State.bumpRetries_cntIntegrity (s : State) : (s.bumpRetries).cntIntegrity = s.cntIntegrity := rfl
@[simp] theorem State.bumpRetries_cntBadmeta (s : State) : (s.bumpRetries).cntBadmeta = s.cntBadmeta := rfl
@[simp] theorem State.bumpRetries_presented (s : State) : (s.bumpRetries).presented = s.presented := rfl
@[simp] theorem State.bumpRetries_emitted (s : State) : (s.bumpRetries).emitted = s.emitted := rfl

/-! ## deliver -/

@[simp] theorem State.deliver_params (s : State) (msg : Bytes) : (s.deliver msg).params = s.params := rfl
@[simp] theorem State.deliver_sendSeq (s : State) (msg : Bytes) : (s.deliver msg).sendSeq = s.sendSeq := rfl
@[simp] theorem State.deliver_expectedRecvSeq (s : State) (msg : Bytes) :
    (s.deliver msg).expectedRecvSeq = s.expectedRecvSeq ^^^ 1#1 := rfl
@[simp] theorem State.deliver_arqState (s : State) (msg : Bytes) : (s.deliver msg).arqState = s.arqState := rfl
@[simp] theorem State.deliver_txTotal (s : State) (msg : Bytes) : (s.deliver msg).txTotal = s.txTotal := rfl
@[simp] theorem State.deliver_txLen (s : State) (msg : Bytes) : (s.deliver msg).txLen = s.txLen := rfl
@[simp] theorem State.deliver_ackTimer (s : State) (msg : Bytes) : (s.deliver msg).ackTimer = s.ackTimer := rfl
@[simp] theorem State.deliver_pending (s : State) (msg : Bytes) : (s.deliver msg).pending = s.pending := rfl
@[simp] theorem State.deliver_retryCnt (s : State) (msg : Bytes) : (s.deliver msg).retryCnt = s.retryCnt := rfl
@[simp] theorem State.deliver_txMsg (s : State) (msg : Bytes) : (s.deliver msg).txMsg = s.txMsg := rfl
@[simp] theorem State.deliver_rbActive (s : State) (msg : Bytes) : (s.deliver msg).rbActive = s.rbActive := rfl
@[simp] theorem State.deliver_rbKey (s : State) (msg : Bytes) : (s.deliver msg).rbKey = s.rbKey := rfl
@[simp] theorem State.deliver_rbTotal (s : State) (msg : Bytes) : (s.deliver msg).rbTotal = s.rbTotal := rfl
@[simp] theorem State.deliver_rbValid (s : State) (msg : Bytes) : (s.deliver msg).rbValid = s.rbValid := rfl
@[simp] theorem State.deliver_rbLen (s : State) (msg : Bytes) : (s.deliver msg).rbLen = s.rbLen := rfl
@[simp] theorem State.deliver_rbData (s : State) (msg : Bytes) : (s.deliver msg).rbData = s.rbData := rfl
@[simp] theorem State.deliver_cntMalformed (s : State) (msg : Bytes) :
    (s.deliver msg).cntMalformed = s.cntMalformed := rfl
@[simp] theorem State.deliver_cntIntegrity (s : State) (msg : Bytes) :
    (s.deliver msg).cntIntegrity = s.cntIntegrity := rfl
@[simp] theorem State.deliver_cntBadmeta (s : State) (msg : Bytes) : (s.deliver msg).cntBadmeta = s.cntBadmeta := rfl
@[simp] theorem State.deliver_presented (s : State) (msg : Bytes) : (s.deliver msg).presented = s.presented := rfl
@[simp] theorem State.deliver_emitted (s : State) (msg : Bytes) :
    (s.deliver msg).emitted = s.emitted ++ [.dlv msg] := rfl

end Sys2Proof.Machine
end

