-- ==== Sys2Proof/Laws/Ops.lean ====
section
/-! SUPPORT. What each shared operation can do, said once. -/

namespace Sys2Proof.Machine

/-! ## The reassembly buffer -/

/-- A fragment either belongs to the message in progress, and nothing changes, or starts one (R145). -/
theorem State.retag_cases (s : State) (key total : Byte) :
    (s.rbActive = true ∧ s.rbKey = key ∧ s.rbTotal = total ∧ s.retag key total = s) ∨
    (s.tagDiffers key total = true ∧
      s.retag key total =
        { s with rbValid := Bank.fill false, rbActive := true, rbKey := key, rbTotal := total }) := by
  unfold State.retag
  by_cases h : s.tagDiffers key total
  · exact Or.inr ⟨h, by rw [if_pos h]⟩
  · refine Or.inl ?_
    simp only [State.tagDiffers, ne_eq, decide_not, Bool.or_eq_true, Bool.not_eq_true',
      decide_eq_false_iff_not, not_or, not_not, Bool.not_eq_false] at h
    exact ⟨h.1.1, h.1.2, h.2, by simp [State.tagDiffers, h]⟩

/-- After tagging the buffer is in progress under the fragment's tag. -/
theorem State.retag_tag (s : State) (key total : Byte) :
    (s.retag key total).rbActive = true ∧ (s.retag key total).rbKey = key ∧
      (s.retag key total).rbTotal = total := by
  rcases s.retag_cases key total with ⟨h1, h2, h3, h⟩ | ⟨-, h⟩ <;> rw [h]
  · exact ⟨h1, h2, h3⟩
  · exact ⟨rfl, rfl, rfl⟩

/-- Tagging touches the valid bits and the tag alone. -/
theorem State.retag_frame (s : State) (key total : Byte) :
    s.retag key total =
      { s with
        rbValid := (s.retag key total).rbValid, rbActive := (s.retag key total).rbActive
        rbKey := (s.retag key total).rbKey, rbTotal := (s.retag key total).rbTotal } := by
  rcases s.retag_cases key total with ⟨-, -, -, h⟩ | ⟨-, h⟩ <;> rw [h]

/-- `ACCEPT` either completes a message, which destroys the buffer, or stores the fragment (R144). -/
theorem State.accept_cases (s : State) (key fid total : Byte) (payload : Bytes) :
    let t := (s.retag key total).insertFragment fid payload
    (t.rbComplete = true ∧ s.accept key fid total payload = (t.destroyRb, some t.rbMessage)) ∨
    (t.rbComplete = false ∧ s.accept key fid total payload = (t, none)) := by
  intro t
  unfold State.accept
  cases h : t.rbComplete
  · exact Or.inr ⟨rfl, by simp [t, h]⟩
  · exact Or.inl ⟨rfl, by simp [t, h]⟩

/-- `ACCEPT` touches the reassembly buffer alone. -/
theorem State.accept_frame (s : State) (key fid total : Byte) (payload : Bytes) :
    (s.accept key fid total payload).1 =
      { s with
        rbActive := (s.accept key fid total payload).1.rbActive
        rbKey := (s.accept key fid total payload).1.rbKey
        rbTotal := (s.accept key fid total payload).1.rbTotal
        rbValid := (s.accept key fid total payload).1.rbValid
        rbLen := (s.accept key fid total payload).1.rbLen
        rbData := (s.accept key fid total payload).1.rbData } := by
  rcases s.accept_cases key fid total payload with ⟨-, h⟩ | ⟨-, h⟩ <;> rw [h] <;>
    rcases s.retag_cases key total with ⟨-, -, -, e⟩ | ⟨-, e⟩ <;> rw [e] <;> rfl

/-! ## The send side -/

/-- An acknowledgment that counts ends the send when it was the last, and else only takes its id out (R167). -/
theorem State.applyAck_cases (s : State) (fid : Byte) :
    ((∀ i < 255, Bank.get (s.clearPending fid).pending i = false) ∧
      s.applyAck fid = (s.clearPending fid).sendSucceeds) ∨
    ((∃ i < 255, Bank.get (s.clearPending fid).pending i = true) ∧
      s.applyAck fid = { s.clearPending fid with arqState := .partiallyAcked }) := by
  unfold State.applyAck
  by_cases h : Bank.allClear (s.clearPending fid).pending
  · exact Or.inl ⟨(Bank.allClear_iff _).mp h, by rw [if_pos h]⟩
  · refine Or.inr ⟨?_, by rw [if_neg h]⟩
    rw [Bank.allClear_iff] at h
    push Not at h
    obtain ⟨i, hi, hb⟩ := h
    exact ⟨i, hi, by simpa using hb⟩

/-- The ceiling test of a timeout (R170). -/
theorem State.ceilingReached_iff (s : State) :
    s.ceilingReached = true ↔
      ∃ i < 255, Bank.get s.pending i = true ∧ s.params.maxRetry ≤ Bank.get s.retryCnt i := by
  simp [State.ceilingReached]

/-- A timeout fails the send or retransmits and reloads the timer (R170). -/
theorem State.timeout_cases (s : State) :
    (s.bumpRetries.ceilingReached = true ∧ s.timeout = s.bumpRetries.sendFails) ∨
    (s.bumpRetries.ceilingReached = false ∧
      s.timeout =
        (s.bumpRetries.emitAll (s.bumpRetries.txBurst fun i =>
          Bank.get s.bumpRetries.pending i &&
            decide (Bank.get s.bumpRetries.retryCnt i < s.params.maxRetry))).loadTimer) := by
  unfold State.timeout
  cases h : s.bumpRetries.ceilingReached
  · exact Or.inr ⟨rfl, rfl⟩
  · exact Or.inl ⟨rfl, rfl⟩

/-! ## The frame codec -/

/-- A frame is accepted exactly when its length is legal, its CRC matches and its length field agrees (R125). -/
theorem frameDecode_ok_iff (p : Params) (f : Bytes) (fr : Frame) :
    frameDecode p f = .ok fr ↔
      minFrame ≤ f.length ∧ f.length ≤ maxFrame p ∧
      crc16 p (f.take (f.length - 2)) = halfAt f (f.length - 2) ∧
      f.length - minFrame = fecLen (halfAt f (f.length - 4)).toNat ∧
      fr =
        { seq := byteAt f 0
          fid := byteAt f 1
          total := byteAt f 2
          payload := fecDecode (slice f 3 (f.length - minFrame)) (halfAt f (f.length - 4)).toNat } := by
  unfold frameDecode
  split
  · next h => simp; omega
  · split
    · next h => simp; omega
    · split
      · next h => simp [h]
      · split
        · next h => simp [h]
        · next h1 h2 h3 h4 =>
          push Not at h3 h4
          simp only [Except.ok.injEq, h3, h4, true_and]
          constructor
          · rintro rfl
            exact ⟨by omega, by omega, rfl⟩
          · rintro ⟨-, -, rfl⟩
            rfl

/-! ## The next event -/

@[simp] theorem nextEvent_nil : nextEvent [] = none := rfl

@[simp] theorem nextEvent_nil_cons (later : List (List Event)) : nextEvent ([] :: later) = nextEvent later := rfl

/-- A stimulus alone in its batch is the next event. -/
@[simp] theorem nextEvent_singleton (e : Event) (later : List (List Event)) :
    nextEvent ([e] :: later) = some (e, [] :: later) := by
  cases e <;> rfl

end Sys2Proof.Machine
end

