-- ==== Sys2Proof/Laws/PerInstr.lean ====
section
/-! SUPPORT. Facts about every instruction as syntax, one lemma per constructor. -/

namespace Sys2Proof.Laws

/-- The port an instruction is encoded on: an opcode below 0x80 stands first in a CMD transaction, an event code stands
on no port and its stimulus is no CMD transaction (spec/30_encoding.md R69, R73). -/
def OpcodeByte.Statement (i : Instr) : Prop :=
  (i.opcode < 0x80#8 → encode i = .cmd (i.opcode :: i.operandBytes)) ∧
  (0x80#8 ≤ i.opcode → ∀ c, encode i ≠ .cmd c)

theorem OpcodeByte.crcCompute (data : Bytes) : OpcodeByte.Statement (.crcCompute data) :=
  ⟨fun _ => rfl, fun h => absurd h (by simp [Instr.opcode])⟩

theorem OpcodeByte.crcVerify (claimed : Half) (data : Bytes) : OpcodeByte.Statement (.crcVerify claimed data) :=
  ⟨fun _ => rfl, fun h => absurd h (by simp [Instr.opcode])⟩

theorem OpcodeByte.hamEnc (nib : Byte) : OpcodeByte.Statement (.hamEnc nib) :=
  ⟨fun _ => rfl, fun h => absurd h (by simp [Instr.opcode])⟩

theorem OpcodeByte.hamDec (cw : Byte) : OpcodeByte.Statement (.hamDec cw) :=
  ⟨fun _ => rfl, fun h => absurd h (by simp [Instr.opcode])⟩

theorem OpcodeByte.fecEnc (data : Bytes) : OpcodeByte.Statement (.fecEnc data) :=
  ⟨fun _ => rfl, fun h => absurd h (by simp [Instr.opcode])⟩

theorem OpcodeByte.fecDec (len : Half) (img : Bytes) : OpcodeByte.Statement (.fecDec len img) :=
  ⟨fun _ => rfl, fun h => absurd h (by simp [Instr.opcode])⟩

theorem OpcodeByte.frmEnc (seq fid total : Byte) (payload : Bytes) : OpcodeByte.Statement (.frmEnc seq fid total payload) :=
  ⟨fun _ => rfl, fun h => absurd h (by simp [Instr.opcode])⟩

theorem OpcodeByte.frmDec (f : Bytes) : OpcodeByte.Statement (.frmDec f) :=
  ⟨fun _ => rfl, fun h => absurd h (by simp [Instr.opcode])⟩

theorem OpcodeByte.frgShould (mlen : Word) : OpcodeByte.Statement (.frgShould mlen) :=
  ⟨fun _ => rfl, fun h => absurd h (by simp [Instr.opcode])⟩

theorem OpcodeByte.frgSplit (msg : Bytes) : OpcodeByte.Statement (.frgSplit msg) :=
  ⟨fun _ => rfl, fun h => absurd h (by simp [Instr.opcode])⟩

theorem OpcodeByte.frgAccept (key fid total : Byte) (payload : Bytes) : OpcodeByte.Statement (.frgAccept key fid total payload) :=
  ⟨fun _ => rfl, fun h => absurd h (by simp [Instr.opcode])⟩

theorem OpcodeByte.frgDrop : OpcodeByte.Statement .frgDrop :=
  ⟨fun _ => rfl, fun h => absurd h (by simp [Instr.opcode])⟩

theorem OpcodeByte.arqSend (msg : Bytes) : OpcodeByte.Statement (.arqSend msg) :=
  ⟨fun _ => rfl, fun h => absurd h (by simp [Instr.opcode])⟩

theorem OpcodeByte.statRd (idx : Byte) : OpcodeByte.Statement (.statRd idx) :=
  ⟨fun _ => rfl, fun h => absurd h (by simp [Instr.opcode])⟩

theorem OpcodeByte.rx (f : Bytes) : OpcodeByte.Statement (.rx f) :=
  ⟨fun h => absurd h (by simp [Instr.opcode]), fun _ _ => by simp [encode]⟩

theorem OpcodeByte.tick : OpcodeByte.Statement .tick :=
  ⟨fun h => absurd h (by simp [Instr.opcode]), fun _ _ => by simp [encode]⟩

theorem OpcodeByte.reset : OpcodeByte.Statement .reset :=
  ⟨fun h => absurd h (by simp [Instr.opcode]), fun _ _ => by simp [encode]⟩

end Sys2Proof.Laws
end

