-- ==== Sys2Proof/Tests/Slice0.lean ====
section
/-! SUPPORT. The model's own tests. Expected words and bytes are copied from spec/95_test_vectors.md (the V- names) or
worked out by hand from the rule named; nothing here is the model's own answer. Then, for each statement with hypotheses, a
witness: a concrete state and operands that meet them together, at boundary values where it has several clauses. -/

namespace Sys2Proof.Machine

set_option Elab.async false

/-! ## Helpers -/

/-- The state a step answers, or the given one. -/
def testNext (s : State) : Host.Outcome State Fault Refusal → State
  | .next t => t
  | .fault _ => s
  | .refused _ => s

/-- A step answers a next state. -/
def testIsNext : Host.Outcome State Fault Refusal → Bool
  | .next _ => true
  | .fault _ => false
  | .refused _ => false

theorem test_next_of (o : Host.Outcome State Fault Refusal) (s : State) (h : testIsNext o = true) :
    o = .next (testNext s o) := by
  cases o with
  | next t => rfl
  | fault r => simp [testIsNext] at h
  | refused r => simp [testIsNext] at h

/-- A state with one event presented. -/
def testWith (s : State) (e : Event) : State := { s with presented := [[e]] }

/-- The state after one step on one event. -/
def testAfter (s : State) (e : Event) : State := testNext s (step (testWith s e))

/-- What one event emits from a state that has emitted nothing. -/
def testOuts (s : State) (e : Event) : List Output := (testAfter { s with emitted := [] } e).emitted

/-- The answer to a command after reset. -/
def testCmd (c : Bytes) : List Output := testOuts State.reset (.cmd c)

/-- The instance with one byte a fragment and threshold 0. -/
def testTiny : State := State.resetOf { Params.p16 with fragmentSize := 1#16, fragThreshold := 0#16 }

/-- A one-fragment send in flight (V-ARQ-1). -/
def testFlying : State := State.reset.startSend [0x41#8]

/-- A two-fragment send in flight, its timer at 1. -/
def testFlyingTwo : State :=
  { State.reset.startSend (List.replicate 17 0x55#8) with ackTimer := 1#32 }

/-- A one-fragment send at its last round. -/
def testLastRound : State := { testFlying with ackTimer := 1#32, retryCnt := Bank.fill 2#8 }

/-- A reassembly in progress: slot 0 of 2 holds a byte, key 0. -/
def testHalf : State :=
  { State.reset with
    rbActive := true, rbTotal := 2#8, rbValid := Bank.put (Bank.fill false) 0 true
    rbLen := Bank.put (Bank.fill 0#16) 0 1#16, rbData := Bank.put (Bank.fill []) 0 [(0, 0xAA#8)] }

/-- Frame V-FRM-4: `0, 0, 1, b"A"`. -/
def testFrame : Bytes := [0x00#8, 0x00#8, 0x01#8, 0x99#8, 0xA4#8, 0x00#8, 0x01#8, 0x24#8, 0x94#8]

/-- Frame V-ACK-1: `0, 0, 1, b"ACK"`. -/
def testAck : Bytes :=
  [0x00#8, 0x00#8, 0x01#8, 0x99#8, 0xA6#8, 0x64#8, 0x39#8, 0x8C#8, 0xC0#8, 0x00#8, 0x03#8, 0x4D#8, 0x29#8]

/-- What frame V-FRM-4 carries. -/
def testFrameFields : Frame := { seq := 0#8, fid := 0#8, total := 1#8, payload := [0x41#8] }

/-- What frame V-ACK-1 carries. -/
def testAckFields : Frame := { seq := 0#8, fid := 0#8, total := 1#8, payload := [0x41#8, 0x43#8, 0x4B#8] }

/-! ## Decoding of words written out from the encoding (spec/30_encoding.md R69 to R73) -/

theorem test_decode_crcCompute :
    decode (.cmd [0x01#8, 0x31#8, 0x32#8]) = .ok (.crcCompute [0x31#8, 0x32#8]) := by rfl

theorem test_decode_crcVerify :
    decode (.cmd [0x02#8, 0xAE#8, 0xE7#8, 0x31#8]) = .ok (.crcVerify 0xAEE7#16 [0x31#8]) := by rfl

theorem test_decode_hamEnc :
    decode (.cmd [0x10#8, 0x0B#8]) = .ok (.hamEnc 0x0B#8) := by rfl

theorem test_decode_hamDec :
    decode (.cmd [0x11#8, 0x33#8]) = .ok (.hamDec 0x33#8) := by rfl

theorem test_decode_fecEnc :
    decode (.cmd [0x12#8, 0x41#8]) = .ok (.fecEnc [0x41#8]) := by rfl

theorem test_decode_fecDec :
    decode (.cmd [0x13#8, 0x01#8, 0x02#8, 0x99#8, 0xA4#8]) = .ok (.fecDec 0x0102#16 [0x99#8, 0xA4#8]) := by rfl

theorem test_decode_frmEnc :
    decode (.cmd [0x20#8, 0x01#8, 0x02#8, 0x03#8, 0x48#8]) = .ok (.frmEnc 0x01#8 0x02#8 0x03#8 [0x48#8]) := by rfl

theorem test_decode_frmDec :
    decode (.cmd [0x21#8, 0x01#8, 0x00#8]) = .ok (.frmDec [0x01#8, 0x00#8]) := by rfl

theorem test_decode_frgShould :
    decode (.cmd [0x30#8, 0x12#8, 0x34#8, 0x56#8, 0x78#8]) = .ok (.frgShould 0x12345678#32) := by rfl

theorem test_decode_frgSplit :
    decode (.cmd [0x31#8, 0x41#8]) = .ok (.frgSplit [0x41#8]) := by rfl

theorem test_decode_frgAccept :
    decode (.cmd [0x32#8, 0x01#8, 0x02#8, 0x03#8, 0x7A#8]) = .ok (.frgAccept 0x01#8 0x02#8 0x03#8 [0x7A#8]) := by rfl

theorem test_decode_frgDrop :
    decode (.cmd [0x33#8]) = .ok .frgDrop := by rfl

theorem test_decode_arqSend :
    decode (.cmd [0x40#8, 0x41#8]) = .ok (.arqSend [0x41#8]) := by rfl

theorem test_decode_statRd :
    decode (.cmd [0x41#8, 0x10#8]) = .ok (.statRd 0x10#8) := by rfl

theorem test_decode_rx : decode (.rx [0x81#8]) = .ok (.rx [0x81#8]) := by rfl

theorem test_decode_tick : decode .tick = .ok .tick := by rfl

theorem test_decode_reset : decode .reset = .ok .reset := by rfl

/-- V-SYS-1: no event code, no gap of the map, no empty transaction is a command. -/
theorem test_decode_illegal :
    [[], [0xFF#8, 0x01#8, 0x02#8], [0x81#8], [0x00#8], [0x03#8], [0x42#8]].map (fun c => testCmd c) =
      List.replicate 6 [.rsp [0x22#8]] := by decide +kernel

/-- V-SYS-1, V-FRG-1: known opcodes with wrong lengths. -/
theorem test_decode_lengths :
    [[0x41#8], [0x41#8, 0x00#8, 0x00#8], [0x33#8, 0x00#8], [0x30#8, 0x00#8, 0x00#8, 0x00#8], [0x20#8, 0x00#8],
      [0x02#8], [0x30#8, 0x00#8, 0x00#8, 0x11#8], [0x10#8], [0x10#8, 0x0B#8, 0x00#8]].map (fun c => testCmd c) =
      List.replicate 9 [.rsp [0x23#8]] := by decide +kernel

/-- The table's numbering: first byte in bits 7..0; operand bytes without bits are 0. -/
theorem test_table_words :
    decodeTableWord 8 0x01 = some (.crcCompute []) ∧ decodeTableWord 24 0xE7AE02 = some (.crcVerify 0xAEE7#16 []) ∧
    decodeTableWord 8 0x30 = some (.frgShould 0#32) ∧ decodeTableWord 8 0x81 = some .tick ∧
    decodeTableWord 8 0x80 = some (.rx []) ∧ decodeTableWord 8 0x42 = none := by decide +kernel

/-- The table's word is the first event a step runs after reset. -/
theorem test_fetch_word :
    (testNext State.reset (step (State.reset.withFetchWord 16 0x0B10))).emitted = [.rsp [0x00#8, 0x33#8]] ∧
    (testNext State.reset (step (State.reset.withFetchWord 8 0x82))).presented = [] := by decide +kernel

/-! ## Well-formedness: one ill-formed term for each check -/

theorem test_ill_formed :
    [Instr.crcCompute (List.replicate 36 0x00#8), .crcVerify 0#16 (List.replicate 36 0x00#8), .hamEnc 16#8,
      .hamDec 128#8, .fecEnc (List.replicate 17 0x00#8), .fecDec 17#16 (List.replicate 30 0x00#8),
      .fecDec 1#16 [0x99#8], .frmEnc 0#8 0#8 1#8 (List.replicate 17 0x00#8),
      .frgAccept 0#8 0#8 1#8 (List.replicate 17 0x00#8), .statRd 0x0B#8, .statRd 0x15#8].map
      (fun i => i.wellFormed Params.p16) = List.replicate 11 false := by decide +kernel

theorem test_ill_formed_split :
    (Instr.frgSplit (List.replicate 256 0x00#8)).wellFormed testTiny.params = false ∧
    (Instr.frgSplit (List.replicate 255 0x00#8)).wellFormed testTiny.params = true := by decide +kernel

theorem test_well_formed :
    [Instr.crcCompute (List.replicate 35 0x00#8), .hamEnc 15#8, .hamDec 127#8, .fecDec 1#16 [0x99#8, 0xA4#8],
      .frmDec [], .frgShould 0#32, .frgDrop, .arqSend [], .statRd 0x14#8, .rx [], .tick, .reset].map
      (fun i => i.wellFormed Params.p16) = List.replicate 12 true := by decide +kernel

/-! ## One step of each instruction -/

/-- V-CRC-5. -/
theorem test_crcCompute_digits :
    testCmd [0x01#8, 0x31#8, 0x32#8, 0x33#8, 0x34#8, 0x35#8, 0x36#8, 0x37#8, 0x38#8, 0x39#8] =
      [.rsp [0x00#8, 0xAE#8, 0xE7#8]] := by decide +kernel

/-- V-CRC-2: a zero byte is not ignored. -/
theorem test_crcCompute_zero :
    testCmd [0x01#8, 0x00#8] =
      [.rsp [0x00#8, 0xFD#8, 0x02#8]] := by decide +kernel

/-- Section 3, Commands. -/
theorem test_crcVerify_match :
    testCmd [0x02#8, 0xAE#8, 0xE7#8, 0x31#8, 0x32#8, 0x33#8, 0x34#8, 0x35#8, 0x36#8, 0x37#8, 0x38#8, 0x39#8] =
      [.rsp [0x00#8, 0x01#8]] := by decide +kernel

/-- Section 3, Commands: a mismatch is not an error. -/
theorem test_crcVerify_mismatch :
    testCmd [0x02#8, 0xAE#8, 0xE6#8, 0x31#8, 0x32#8, 0x33#8, 0x34#8, 0x35#8, 0x36#8, 0x37#8, 0x38#8, 0x39#8] =
      [.rsp [0x00#8, 0x00#8]] := by decide +kernel

/-- V-HAM-1. -/
theorem test_hamEnc :
    testCmd [0x10#8, 0x0B#8] =
      [.rsp [0x00#8, 0x33#8]] := by decide +kernel

/-- V-HAM-1: operand above 15. -/
theorem test_hamEnc_range :
    testCmd [0x10#8, 0x10#8] =
      [.rsp [0x23#8]] := by decide +kernel

/-- V-HAM-2: position 3. -/
theorem test_hamDec_repairs :
    testCmd [0x11#8, 0x23#8] =
      [.rsp [0x00#8, 0x0B#8, 0x03#8]] := by decide +kernel

/-- V-HAM-3, entry 0x13 (log 22: V-HAM-2 prints another nibble for it). -/
theorem test_hamDec_two_errors :
    testCmd [0x11#8, 0x13#8] =
      [.rsp [0x00#8, 0x0B#8, 0x02#8]] := by decide +kernel

/-- V-FEC-5. -/
theorem test_fecEnc_ack :
    testCmd [0x12#8, 0x41#8, 0x43#8, 0x4B#8] =
      [.rsp [0x00#8, 0x99#8, 0xA6#8, 0x64#8, 0x39#8, 0x8C#8, 0xC0#8]] := by decide +kernel

/-- V-FEC-6. -/
theorem test_fecEnc_no_pad :
    testCmd [0x12#8, 0x12#8, 0x34#8, 0x56#8, 0x78#8] =
      [.rsp [0x00#8, 0xD2#8, 0xAA#8, 0x1C#8, 0xC4#8, 0xB9#8, 0x87#8, 0xF0#8]] := by decide +kernel

/-- Section 5: one flipped bit in each codeword. -/
theorem test_fecDec_repairs :
    testCmd [0x13#8, 0x00#8, 0x01#8, 0x19#8, 0xA0#8] =
      [.rsp [0x00#8, 0x41#8]] := by decide +kernel

/-- Section 5: length precondition. -/
theorem test_fecDec_length :
    testCmd [0x13#8, 0x00#8, 0x02#8, 0x99#8, 0xA4#8] =
      [.rsp [0x23#8]] := by decide +kernel

/-- V-FRM-5: header bytes unchecked. -/
theorem test_frmEnc :
    testCmd [0x20#8, 0xAB#8, 0xCD#8, 0xEF#8, 0x12#8, 0x34#8] =
      [.rsp [0x00#8, 0xAB#8, 0xCD#8, 0xEF#8, 0xD2#8, 0xAA#8, 0x1C#8, 0xC0#8, 0x00#8, 0x02#8, 0x59#8, 0x37#8]] := by decide +kernel

/-- V-FRM-10: pad bits are not checked. -/
theorem test_frmDec :
    testCmd [0x21#8, 0x00#8, 0x00#8, 0x01#8, 0x99#8, 0xA7#8, 0x00#8, 0x01#8, 0x24#8, 0xA8#8] =
      [.rsp [0x00#8, 0x00#8, 0x00#8, 0x01#8, 0x41#8]] := by decide +kernel

/-- V-FRM-7a, 7c, 7f, 7g: the four errors. -/
theorem test_frmDec_errors :
    testCmd [0x21#8] = [.rsp [0x01#8]] ∧
    testCmd (0x21#8 :: List.replicate 36 0x00#8) = [.rsp [0x11#8]] ∧
    testCmd (0x21#8 :: List.replicate 7 0x00#8) = [.rsp [0x02#8]] ∧
    testCmd [0x21#8, 0x00#8, 0x00#8, 0x01#8, 0x99#8, 0xA4#8, 0x00#8, 0x02#8, 0x24#8, 0x9E#8] = [.rsp [0x12#8]] := by
  decide +kernel

/-- V-FRG-1: equal to the threshold. -/
theorem test_frgShould_equal :
    testCmd [0x30#8, 0x00#8, 0x00#8, 0x00#8, 0x10#8] =
      [.rsp [0x00#8, 0x00#8]] := by decide +kernel

/-- V-FRG-1. -/
theorem test_frgShould_above :
    testCmd [0x30#8, 0x00#8, 0x00#8, 0x00#8, 0x11#8] =
      [.rsp [0x00#8, 0x01#8]] := by decide +kernel

/-- V-FRG-2: 17 bytes. -/
theorem test_frgSplit_two :
    testCmd [0x31#8, 0x00#8, 0x01#8, 0x02#8, 0x03#8, 0x04#8, 0x05#8, 0x06#8, 0x07#8, 0x08#8, 0x09#8, 0x0A#8,
      0x0B#8, 0x0C#8, 0x0D#8, 0x0E#8, 0x0F#8, 0x10#8] =
      [.rsp [0x00#8, 0x02#8, 0x00#8, 0x10#8, 0x00#8, 0x01#8, 0x02#8, 0x03#8, 0x04#8, 0x05#8, 0x06#8, 0x07#8,
      0x08#8, 0x09#8, 0x0A#8, 0x0B#8, 0x0C#8, 0x0D#8, 0x0E#8, 0x0F#8, 0x00#8, 0x01#8, 0x10#8]] := by decide +kernel

/-- V-FRG-2: the empty message. -/
theorem test_frgSplit_empty :
    testCmd [0x31#8] =
      [.rsp [0x00#8, 0x01#8, 0x00#8, 0x00#8]] := by decide +kernel

/-- V-FRG-3, step 1: the answer, `RB_TAG`, the valid slot. -/
theorem test_frgAccept_stores :
    testCmd [0x32#8, 0x00#8, 0x02#8, 0x03#8, 0x20#8] = [.rsp [0x00#8, 0x00#8]] ∧
    ((testAfter State.reset (.cmd [0x32#8, 0x00#8, 0x02#8, 0x03#8, 0x20#8])).statValue 0x06#8) = some 0x00010003#32 ∧
    Bank.get (testAfter State.reset (.cmd [0x32#8, 0x00#8, 0x02#8, 0x03#8, 0x20#8])).rbValid 2 = true := by
  decide +kernel

/-- V-FRG-4: a later delivery of an id replaces the earlier, here `AA` by `BB CC`, then `DD` completes. -/
theorem test_frgAccept_overwrites :
    testOuts (testAfter testHalf (.cmd [0x32#8, 0x00#8, 0x00#8, 0x02#8, 0xBB#8, 0xCC#8]))
      (.cmd [0x32#8, 0x00#8, 0x01#8, 0x02#8, 0xDD#8]) = [.rsp [0x00#8, 0x01#8, 0xBB#8, 0xCC#8, 0xDD#8]] := by
  decide +kernel

/-- V-FRG-8: the stale tag stays. -/
theorem test_frgDrop :
    testOuts testHalf (.cmd [0x33#8]) = [.rsp [0x00#8]] ∧
    (testAfter testHalf (.cmd [0x33#8])).statValue 0x06#8 = some 0x00000002#32 ∧
    Bank.get (testAfter testHalf (.cmd [0x33#8])).rbValid 0 = false := by decide +kernel

/-- V-ARQ-1. -/
theorem test_arqSend :
    testCmd [0x40#8, 0x41#8] = [.tx testFrame, .rsp [0x00#8]] ∧
    (testAfter State.reset (.cmd [0x40#8, 0x41#8])).arqState = .pending ∧
    (testAfter State.reset (.cmd [0x40#8, 0x41#8])).ackTimer = 2#32 := by decide +kernel

/-- V-ARQ-3. -/
theorem test_arqSend_busy : testOuts testFlying (.cmd [0x40#8, 0x42#8]) = [.rsp [0x20#8]] := by decide +kernel

/-- V-SYS-2. -/
theorem test_statRd_poly :
    testCmd [0x41#8, 0x10#8] =
      [.rsp [0x00#8, 0x00#8, 0x00#8, 0x80#8, 0x05#8]] := by decide +kernel

/-- V-SYS-2. -/
theorem test_statRd_reserved :
    testCmd [0x41#8, 0x0B#8] =
      [.rsp [0x23#8]] := by decide +kernel

/-- V-ARQ-6, first row: acknowledged first, then delivered. -/
theorem test_rx_delivers :
    testOuts State.reset (.rx testFrame) = [.tx testAck, .dlv [0x41#8]] ∧
    (testAfter State.reset (.rx testFrame)).expectedRecvSeq = 1#1 := by decide +kernel

/-- P1, step 3: the acknowledgment completes the send. -/
theorem test_rx_ack : testOuts testFlying (.rx testAck) = [.evt 0x01#8 0x00#8] := by decide +kernel

/-- R169, R170: the timer counts down, and at 1 what is still pending goes out again. -/
theorem test_tick :
    (testAfter testFlying .tick).ackTimer = 1#32 ∧
    testOuts { testFlying with ackTimer := 1#32 } .tick = [.tx testFrame] := by decide +kernel

/-- R170, R171 with MAX_RETRY = 3. -/
theorem test_tick_fails :
    (testAfter testLastRound .tick).arqState = .failed := by decide +kernel

/-- R240. -/
theorem test_reset :
    testOuts testFlying .reset = [] ∧ (testAfter testFlying .reset).statValue 0x00#8 = some 0#32 ∧
    (testAfter testFlying .reset).statValue 0x03#8 = some 0#32 := by decide +kernel

/-! ## Witnesses of the statements' hypotheses -/

theorem witness_StepRunsTheDecodedEvent :
    nextEvent (testWith State.reset (.cmd [0x10#8, 0x0B#8])).presented = some (.cmd [0x10#8, 0x0B#8], [[]]) ∧
    decode (.cmd [0x10#8, 0x0B#8]) = .ok (.hamEnc 0x0B#8) := ⟨rfl, rfl⟩

theorem witness_EventsAreTakenInTheOrderPresented :
    (∀ b ∈ ({ State.reset with presented := [[], []] } : State).presented, b = []) ∧
    Event.reset ∉ [Event.tick, .rx []] := by decide +kernel

theorem witness_ResetDominatesItsBatch :
    ({ State.reset with presented := [[.tick, .reset], [.tick]] } : State).presented = [.tick, .reset] :: [[.tick]] ∧
    Event.reset ∈ [Event.tick, .reset] := by decide +kernel

theorem witness_IllegalCommandsAreRefused :
    nextEvent (testWith State.reset (.cmd [0x42#8])).presented = some (.cmd [0x42#8], [[]]) ∧
    nextEvent (testWith State.reset (.cmd [])).presented = some (.cmd [], [[]]) ∧
    (∀ op args, [0x42#8] = op :: args →
      op ∉ [0x01#8, 0x02#8, 0x10#8, 0x11#8, 0x12#8, 0x13#8, 0x20#8, 0x21#8, 0x30#8, 0x31#8, 0x32#8, 0x33#8,
            0x40#8, 0x41#8]) := by
  refine ⟨rfl, rfl, ?_⟩
  intro op args h
  cases h
  decide

/-- One transaction for each clause, at the lengths beside the right one. -/
theorem witness_WrongLengthsAreRefused :
    nextEvent (testWith State.reset (.cmd (0x33#8 :: [0x00#8]))).presented = some (.cmd (0x33#8 :: [0x00#8]), [[]]) ∧
    (0x33#8 = 0x33#8 ∧ [0x00#8] ≠ ([] : Bytes)) ∧
    (0x41#8 ∈ [0x10#8, 0x11#8, 0x41#8] ∧ ([] : Bytes).length ≠ 1) ∧
    (0x30#8 = 0x30#8 ∧ (List.replicate 5 0x00#8).length ≠ 4) ∧
    (0x13#8 ∈ [0x02#8, 0x13#8] ∧ [0x00#8].length < 2) ∧
    (0x20#8 ∈ [0x20#8, 0x32#8] ∧ [0x00#8, 0x00#8].length < 3) := by
  refine ⟨rfl, ?_⟩
  decide

theorem witness_CrcComputeAnswersTheChecksum :
    (List.replicate 35 0x00#8).length ≤ maxFrame State.reset.params ∧
    maxFrame State.reset.params < (List.replicate 36 0x00#8).length ∧ State.reset.params.crcPoly = 0x8005#16 := by
  decide +kernel

theorem witness_CrcVerifyComparesTheChecksum :
    ([0x02#8].length < 2 ∧ [0x41#8].length ≤ maxFrame State.reset.params ∧
      crc16 State.reset.params [0x41#8] = 0xFC84#16 ∧ crc16 State.reset.params [0x41#8] ≠ 0xFC85#16) ∧
    maxFrame State.reset.params < (List.replicate 36 0x00#8).length ∧
    State.reset.params.crcPoly = 0x8005#16 ∧ 9 ≤ maxFrame State.reset.params := by decide +kernel

theorem witness_CrcOverDataAndChecksumIsZero : Params.p16.crcPoly.getLsbD 0 = true := by decide +kernel

theorem witness_OneFlippedBitIsAlwaysRejected :
    Params.p16.crcPoly.getLsbD 0 = true ∧ (List.replicate 16 0x00#8).length ≤ maxPayload Params.p16 ∧
    279 < 8 * (frameEncode Params.p16 0#8 0#8 1#8 (List.replicate 16 0x00#8)).length := by decide +kernel

theorem witness_HamEncAnswersTheCodeword :
    (15#8 < 16#8) ∧ (15#8 ≤ 15#8) ∧ ([] : Bytes).length ≠ 1 := by decide

theorem witness_HamDecAnswersTheCorrectedNibble :
    (127#8 < 128#8) ∧ (127#8 ≤ 127#8) ∧ [0x00#8, 0x00#8].length ≠ 1 := by decide

theorem witness_HammingEncodeTable : (7#4 : BitVec 4) ≠ 8#4 := by decide

theorem witness_HammingDecodeIsNearestCodeword :
    (7#3 ≠ 0#3) ∧ 2 ≤ ((bitsMsb (0x13#7 ^^^ henc 3#4)).filter id).length ∧
    ((bitsMsb (0x13#7 ^^^ henc 11#4)).filter id).length ≤ 1 := by decide +kernel

theorem witness_FecEncPacksTheCodewords :
    maxPayload State.reset.params < (List.replicate 17 0x00#8).length ∧
    (List.replicate 16 0x00#8).length ≤ maxPayload State.reset.params := by decide +kernel

theorem witness_FecDecUnpacksTheCodewords :
    [0x00#8].length < 2 ∧ (maxPayload State.reset.params < (17#16).toNat) ∧
    ([0x99#8].length ≠ fecLen (1#16).toNat) ∧ 1 ≤ maxPayload State.reset.params ∧
    ((16#16).toNat ≤ maxPayload State.reset.params ∧ (List.replicate 28 0x00#8).length = fecLen (16#16).toNat) := by
  decide +kernel

/-- Section 5's image with one flipped bit in each codeword and both pad bits set. -/
theorem witness_FecSurvivesOneErrorPerCodeword :
    [0x19#8, 0xA3#8].length = (fecEncode [0x41#8]).length ∧
    ∀ m < 2 * [0x41#8].length, spanErrors [0x19#8, 0xA3#8] (fecEncode [0x41#8]) m ≤ 1 := by decide +kernel

theorem witness_FrmEncAnswersTheFrame :
    [0x00#8, 0x00#8].length < 3 ∧ maxPayload State.reset.params < (List.replicate 17 0x00#8).length ∧
    (List.replicate 16 0x00#8).length ≤ maxPayload State.reset.params ∧
    State.reset.params.crcPoly = 0x8005#16 ∧ 12 ≤ maxPayload State.reset.params := by decide +kernel

/-- V-FRM-7b, 7c, 7f, 7g and V-FRM-4, one for each clause. -/
theorem witness_FrmDecChecksInOrder :
    (List.replicate 6 0x00#8).length < 7 ∧
    (7 ≤ (List.replicate 36 0x00#8).length ∧ maxFrame State.reset.params < (List.replicate 36 0x00#8).length) ∧
    (7 ≤ (List.replicate 7 0x00#8).length ∧ (List.replicate 7 0x00#8).length ≤ maxFrame State.reset.params ∧
      crc16 State.reset.params ((List.replicate 7 0x00#8).take 5) ≠ 0x00#8 ++ 0x00#8) ∧
    (crc16 State.reset.params [0x00#8, 0x00#8, 0x01#8, 0x99#8, 0xA4#8, 0x00#8, 0x02#8] = 0x24#8 ++ 0x9E#8 ∧
      9 - 7 ≠ fecLen (256 * (0x00#8).toNat + (0x02#8).toNat)) ∧
    (State.reset.params.crcPoly = 0x8005#16 ∧ 28 ≤ maxFrame State.reset.params) ∧
    (testFrame.length ≤ maxFrame State.reset.params ∧
      crc16 State.reset.params (testFrame.take (testFrame.length - 2)) =
        testFrame.getD (testFrame.length - 2) 0x00#8 ++ testFrame.getD (testFrame.length - 1) 0x00#8 ∧
      testFrame.length - 7 =
        fecLen (256 * (testFrame.getD (testFrame.length - 4) 0x00#8).toNat +
          (testFrame.getD (testFrame.length - 3) 0x00#8).toNat)) := by decide +kernel

theorem test_frame_fields : frameDecode State.reset.params testFrame = .ok testFrameFields := by decide +kernel

theorem test_ack_fields : frameDecode State.reset.params testAck = .ok testAckFields := by decide +kernel

theorem witness_FrameLengths :
    (List.replicate 16 0x00#8).length ≤ maxPayload Params.p16 ∧
    ∃ fr, frameDecode Params.p16 testFrame = .ok fr := ⟨by decide +kernel, testFrameFields, test_frame_fields⟩

theorem witness_FrameRoundTrip : (List.replicate 16 0x00#8).length ≤ maxPayload Params.p16 := by decide +kernel

theorem witness_FrgShouldComparesWithTheThreshold :
    State.reset.params.fragThreshold = 16#16 ∧ [0x00#8, 0x00#8, 0x11#8].length ≠ 4 := by decide +kernel

theorem witness_FrgSplitAnswersTheFragments :
    (1 = testTiny.params.fragmentSize.toNat ∧ 1 ≤ 1) ∧
    (255 < 256 ∧ 256 = max 1 (((List.replicate 256 0x00#8).length + 1 - 1) / 1)) ∧
    (255 ≤ 255 ∧ 255 = max 1 (((List.replicate 255 0x00#8).length + 1 - 1) / 1)) := by decide +kernel

theorem witness_SplitPayloadsConcatenateToTheMessage :
    Params.p16.fragmentSize ≠ 0#16 ∧ List.replicate 17 0x00#8 ≠ [] ∧
    0 + 1 < splitCount Params.p16 (List.replicate 17 0x00#8) := by decide +kernel

/-! ### Buffers -/

theorem test_reset_wf (p : Params) : (State.resetOf p).BuffersWf := by
  refine ⟨Memory.wf_nil, ?_⟩
  intro i hi
  have h : Bank.get (State.resetOf p).rbData i = [] := Bank.get_fill [] i hi
  rw [h]
  exact Memory.wf_nil

/-- One refusal of each kind, a fragment that does not complete its message, and one that does. -/
theorem witness_FrgAcceptStoresOrCompletes :
    [0x00#8, 0x00#8].length < 3 ∧ maxPayload State.reset.params < (List.replicate 17 0x00#8).length ∧
    ([0x00#8].length ≤ maxPayload State.reset.params ∧ (255#8 ≤ 255#8) ∧ (0#8 = 0#8)) ∧
    ((List.replicate 16 0x00#8).length ≤ maxPayload State.reset.params ∧ 254#8 < 255#8) ∧
    State.reset.BuffersWf ∧ ¬ Completes State.reset 0#8 254#8 255#8 ∧ Completes State.reset 0#8 0#8 1#8 := by
  refine ⟨by decide, by decide +kernel, by decide +kernel, by decide +kernel, test_reset_wf _, ?_, ?_⟩
  · intro h
    exact absurd (h 0 (by decide)) (by decide +kernel)
  · intro i hi
    have h0 : i = 0 := by simpa using hi
    subst h0
    decide +kernel

theorem witness_FrgDropDestroysTheBuffer : [0x00#8] ≠ ([] : Bytes) := by decide

/-- Two fragments, fed 1, 1, then 0; the buffer inactive. -/
theorem witness_ReassemblyInAnyOrderGivesTheMessage :
    State.reset.params.fragmentSize ≠ 0#16 ∧
    splitCount State.reset.params (List.replicate 17 0x55#8) ≤ 255 ∧ State.reset.BuffersWf ∧
    State.reset.rbActive = false ∧
    (∀ i ∈ [1, 1], i < splitCount State.reset.params (List.replicate 17 0x55#8) ∧ i ≠ 0) ∧
    0 < splitCount State.reset.params (List.replicate 17 0x55#8) ∧
    (∀ i < splitCount State.reset.params (List.replicate 17 0x55#8), i = 0 ∨ i ∈ [1, 1]) :=
  ⟨by decide +kernel, by decide +kernel, test_reset_wf _, rfl, by decide +kernel, by decide +kernel,
    by decide +kernel⟩

/-! ### The ARQ sequencer -/

theorem test_not_too_long : ¬ TooLong State.reset.params [0x41#8] := fun h => absurd h.1 (by decide +kernel)

theorem witness_ArqSendRefusals :
    testFlying.arqState = .pending ∧ testTiny.arqState = .idle ∧
    TooLong testTiny.params (List.replicate 256 0x00#8) :=
  ⟨rfl, rfl, by decide +kernel, by decide +kernel⟩

theorem witness_ArqSendStartsTheFirstRound :
    State.reset.params.Valid ∧ State.reset.BuffersWf ∧ State.reset.arqState = .idle ∧
    ¬ TooLong State.reset.params [0x41#8] :=
  ⟨by decide +kernel, test_reset_wf _, rfl, test_not_too_long⟩

theorem witness_FramesStayTheSameWhileInFlight :
    ∃ t, exec .tick testFlying = .next t ∧ testFlying.arqState.inFlight = true ∧ t.arqState.inFlight = true :=
  ⟨testNext testFlying (exec .tick testFlying), test_next_of _ _ (by decide +kernel), rfl, by decide +kernel⟩

theorem test_ack_counts : Counts testFlying testAckFields := by
  refine ⟨rfl, rfl, ?_, ?_, ?_⟩ <;> decide +kernel

theorem test_ack_counts_two : Counts testFlyingTwo testAckFields := by
  refine ⟨rfl, rfl, ?_, ?_, ?_⟩ <;> decide +kernel

theorem test_last_pending : ¬ OthersPending testFlying 0#8 := by
  rintro ⟨i, hi, hne, hp⟩
  rw [show testFlying.pending = Bank.tabulate (fun i => decide (i < sendTotal State.reset.params [0x41#8])) from rfl,
    Bank.get_tabulate _ i hi, show sendTotal State.reset.params [0x41#8] = 1 from by decide +kernel] at hp
  have : i = 0 := by simpa using hp
  exact hne (by simpa using this)

/-- The last pending id, and one of two. -/
theorem witness_CountingAckIsApplied :
    (frameDecode testFlying.params testAck = .ok testAckFields ∧ Counts testFlying testAckFields ∧
      ¬ OthersPending testFlying testAckFields.fid) ∧
    (frameDecode testFlyingTwo.params testAck = .ok testAckFields ∧ Counts testFlyingTwo testAckFields ∧
      OthersPending testFlyingTwo testAckFields.fid) :=
  ⟨⟨test_ack_fields, test_ack_counts, test_last_pending⟩,
    ⟨test_ack_fields, test_ack_counts_two, 1, by decide, by decide, by decide +kernel⟩⟩

theorem witness_OtherAcksAreIgnored :
    frameDecode State.reset.params testAck = .ok testAckFields ∧
    testAckFields.payload = [0x41#8, 0x43#8, 0x4B#8] ∧ ¬ Counts State.reset testAckFields :=
  ⟨test_ack_fields, rfl, fun h => absurd h.2.1 (by decide +kernel)⟩

/-- V-FRM-7b, 7c, 7f, 7g (their full forms are in `witness_FrmDecChecksInOrder`), and metadata with `fid = total`. -/
theorem witness_BadDatagramsAreCountedAndDropped :
    (List.replicate 6 0x00#8).length < 7 ∧ maxFrame State.reset.params < (List.replicate 36 0x00#8).length ∧
    (crc16 State.reset.params ((List.replicate 7 0x00#8).take 5) ≠ 0x00#8 ++ 0x00#8) ∧
    (crc16 State.reset.params [0x00#8, 0x00#8, 0x01#8, 0x99#8, 0xA4#8, 0x00#8, 0x02#8] = 0x24#8 ++ 0x9E#8 ∧
      9 - 7 ≠ fecLen (256 * (0x00#8).toNat + (0x02#8).toNat)) ∧
    ∃ fr, frameDecode State.reset.params (frameEncode State.reset.params 0#8 1#8 1#8 [0x41#8]) = .ok fr ∧
      fr.payload ≠ [0x41#8, 0x43#8, 0x4B#8] ∧ (fr.total = 0#8 ∨ fr.total ≤ fr.fid) :=
  ⟨by decide +kernel, by decide +kernel, by decide +kernel, by decide +kernel,
    { seq := 0#8, fid := 1#8, total := 1#8, payload := [0x41#8] }, by decide +kernel, by decide, by decide⟩

theorem test_good_data : GoodData testFrameFields := by
  refine ⟨?_, ?_, ?_⟩ <;> decide +kernel

/-- A frame that completes its message, and fragment 0 of two. -/
theorem witness_NewDataIsAcknowledgedStoredAndDelivered :
    (frameDecode State.reset.params testFrame = .ok testFrameFields ∧ GoodData testFrameFields ∧
      testFrameFields.seq = State.reset.expectedRecvSeq.setWidth 8 ∧ State.reset.BuffersWf ∧
      Completes State.reset testFrameFields.seq testFrameFields.fid testFrameFields.total) ∧
    (∃ fr, frameDecode State.reset.params (frameEncode State.reset.params 0#8 0#8 2#8 [0x41#8]) = .ok fr ∧
      GoodData fr ∧ fr.seq = State.reset.expectedRecvSeq.setWidth 8 ∧
      ¬ Completes State.reset fr.seq fr.fid fr.total) := by
  refine ⟨⟨test_frame_fields, test_good_data, by decide +kernel, test_reset_wf _, ?_⟩,
    { seq := 0#8, fid := 0#8, total := 2#8, payload := [0x41#8] }, by decide +kernel, ?_, by decide +kernel, ?_⟩
  · intro i hi
    have h0 : i = 0 := by simpa [testFrameFields] using hi
    subst h0
    decide +kernel
  · refine ⟨?_, ?_, ?_⟩ <;> decide +kernel
  · intro h
    exact absurd (h 1 (by decide +kernel)) (by decide +kernel)

/-- After the delivery of V-FRM-4 its sequence byte is no longer the expected one. -/
theorem witness_DuplicatesAreAcknowledgedOnly :
    frameDecode (testAfter State.reset (.rx testFrame)).params testFrame = .ok testFrameFields ∧
    GoodData testFrameFields ∧
    testFrameFields.seq ≠ (testAfter State.reset (.rx testFrame)).expectedRecvSeq.setWidth 8 :=
  ⟨by decide +kernel, test_good_data, by decide +kernel⟩

theorem witness_TickCountsDown :
    State.reset.arqState = .idle ∧ (testFlying.arqState = .pending ∧ 1 < testFlying.ackTimer.toNat) := by
  decide +kernel

theorem test_not_ceiling : ¬ ReachesCeiling testFlyingTwo := by
  rintro ⟨i, hi, -, hc⟩
  have h0 : Bank.get testFlyingTwo.retryCnt i = 0#8 := Bank.get_fill 0#8 i hi
  unfold retryAfterTimeout at hc
  rw [h0] at hc
  split at hc <;> exact absurd hc (by decide +kernel)

theorem witness_TimeoutRetransmitsOrFails :
    (testLastRound.arqState = .pending ∧ testLastRound.ackTimer.toNat ≤ 1 ∧ ReachesCeiling testLastRound) ∧
    (testFlyingTwo.arqState = .pending ∧ testFlyingTwo.ackTimer.toNat ≤ 1 ∧ ¬ ReachesCeiling testFlyingTwo) :=
  ⟨⟨rfl, by decide +kernel, 0, by decide, by decide +kernel, by decide +kernel⟩,
    rfl, by decide +kernel, test_not_ceiling⟩

theorem witness_ArqTransitionTable : ∃ t, exec .tick testLastRound = .next t :=
  ⟨testNext testLastRound (exec .tick testLastRound), test_next_of _ _ (by decide +kernel)⟩

theorem witness_RetryCeilingIsExact :
    State.reset.params.Valid ∧ State.reset.BuffersWf ∧ State.reset.arqState.inFlight = false ∧
    ¬ TooLong State.reset.params [0x41#8] ∧ ∃ u, exec (.arqSend [0x41#8]) State.reset = .next u :=
  ⟨by decide +kernel, test_reset_wf _, rfl, test_not_too_long,
    testNext State.reset (exec (.arqSend [0x41#8]) State.reset), test_next_of _ _ (by decide +kernel)⟩

/-- V-FRM-4 delivered after reset, then received again. -/
theorem witness_DeliveredMessagesAreNotDeliveredAgain :
    ∃ t, frameDecode State.reset.params testFrame = .ok testFrameFields ∧
      exec (.rx testFrame) State.reset = .next t ∧ t.emitted.getLast? = some (.dlv [0x41#8]) ∧
      t.emitted ≠ State.reset.emitted ∧ frameDecode t.params testFrame = .ok testFrameFields ∧
      GoodData testFrameFields :=
  ⟨testNext State.reset (exec (.rx testFrame) State.reset), test_frame_fields, test_next_of _ _ (by decide +kernel),
    by decide +kernel, by decide +kernel, by decide +kernel, test_good_data⟩

/-- A data frame, an acknowledgment, a send, a tick and a fragment that each answer a next state. -/
theorem witness_DirectionsAreIndependent :
    frameDecode State.reset.params testFrame = .ok testFrameFields ∧
    frameDecode testFlying.params testAck = .ok testAckFields ∧
    testIsNext (exec (.rx testFrame) State.reset) = true ∧ testFrameFields.payload ≠ [0x41#8, 0x43#8, 0x4B#8] ∧
    testIsNext (exec (.rx testAck) testFlying) = true ∧ testAckFields.payload = [0x41#8, 0x43#8, 0x4B#8] ∧
    testIsNext (exec (.arqSend [0x41#8]) State.reset) = true ∧ testIsNext (exec .tick testFlying) = true ∧
    testIsNext (exec (.frgAccept 0#8 0#8 1#8 []) State.reset) = true :=
  ⟨test_frame_fields, test_ack_fields, by decide +kernel, by decide, by decide +kernel, rfl, by decide +kernel,
    by decide +kernel, by decide +kernel⟩

/-- The last acknowledgment toggles `send_seq`, a delivery `expected_recv_seq`. -/
theorem witness_SequenceBitsToggleOnlyOnCompletion :
    (∃ t, exec (.rx testAck) testFlying = .next t ∧ t.sendSeq ≠ testFlying.sendSeq) ∧
    (∃ t, exec (.rx testFrame) State.reset = .next t ∧ t.expectedRecvSeq ≠ State.reset.expectedRecvSeq) ∧
    ∃ t, exec .reset testFlying = .next t :=
  ⟨⟨testNext testFlying (exec (.rx testAck) testFlying), test_next_of _ _ (by decide +kernel), by decide +kernel⟩,
    ⟨testNext State.reset (exec (.rx testFrame) State.reset), test_next_of _ _ (by decide +kernel), by decide +kernel⟩,
    testNext testFlying (exec .reset testFlying), test_next_of _ _ (by decide +kernel)⟩

/-! ### Whole-machine rules -/

theorem witness_EveryCommandGetsOneResponse :
    nextEvent (testWith State.reset (.cmd [0x40#8, 0x41#8])).presented = some (.cmd [0x40#8, 0x41#8], [[]]) ∧
    nextEvent (testWith testFlying (.cmd [0x40#8, 0x41#8])).presented = some (.cmd [0x40#8, 0x41#8], [[]]) :=
  ⟨rfl, rfl⟩

theorem witness_OutputsHaveTheirCauses :
    (∃ t, exec (.rx testFrame) State.reset = .next t ∧ .dlv [0x41#8] ∈ t.emitted) ∧
    (∃ t, exec (.arqSend [0x41#8]) State.reset = .next t ∧ .rsp [0x00#8] ∈ t.emitted) ∧
    (∃ t, exec .tick testLastRound = .next t ∧ .evt 0x01#8 0x04#8 ∈ t.emitted) :=
  ⟨⟨testNext State.reset (exec (.rx testFrame) State.reset), test_next_of _ _ (by decide +kernel), by decide +kernel⟩,
    ⟨testNext State.reset (exec (.arqSend [0x41#8]) State.reset), test_next_of _ _ (by decide +kernel),
      by decide +kernel⟩,
    ⟨testNext testLastRound (exec .tick testLastRound), test_next_of _ _ (by decide +kernel), by decide +kernel⟩⟩

/-- Both sides of each equivalence, on both kinds of operation. -/
theorem witness_OperandsOutOfRangeAreRefused :
    (∀ msg, Instr.hamEnc 16#8 ≠ .frgSplit msg) ∧ (Instr.hamEnc 16#8).wellFormed State.reset.params = false ∧
    (Instr.frgSplit (List.replicate 256 0x00#8)).wellFormed testTiny.params = false ∧
    (Instr.frgSplit (List.replicate 255 0x00#8)).wellFormed testTiny.params = true ∧
    (Instr.hamEnc 15#8).wellFormed State.reset.params = true := by
  refine ⟨fun msg h => Instr.noConfusion h, ?_⟩
  decide +kernel

theorem witness_ParametersNeverChange : ∃ t, step (testWith testFlying .reset) = .next t :=
  ⟨testNext testFlying (step (testWith testFlying .reset)), test_next_of _ _ (by decide +kernel)⟩

/-- Slot 0 of 2 valid. -/
theorem test_half_valid (i : Nat) (hi : i < 255) : Bank.get testHalf.rbValid i = decide (i = 0) := by
  have h : Bank.get (Bank.put (Bank.fill false) 0 true) i = if i = 0 then true else Bank.get (Bank.fill false) i :=
    Bank.get_put _ 0 _ i (by decide)
  rw [Bank.get_fill false i hi] at h
  have e : testHalf.rbValid = Bank.put (Bank.fill false) 0 true := rfl
  rw [e, h]
  by_cases h0 : i = 0 <;> simp [h0]

theorem test_half_inv : testHalf.RbInv := by
  refine ⟨fun h => absurd h (by decide +kernel), fun _ => ⟨by decide +kernel, ?_, ?_, ?_⟩, ?_⟩
  · intro i hi hge
    rw [show testHalf.rbTotal.toNat = 2 from by decide +kernel] at hge
    rw [test_half_valid i hi, decide_eq_false (by omega)]
  · exact ⟨0, by decide, test_half_valid 0 (by decide)⟩
  · exact ⟨1, by decide +kernel, test_half_valid 1 (by decide)⟩
  · intro i hi h
    rw [test_half_valid i hi] at h
    rw [of_decide_eq_true h]
    decide +kernel

theorem test_with_rbInv (s : State) (e : Event) (h : s.RbInv) : (testWith s e).RbInv := h

/-- A buffer in use, and an event. -/
theorem witness_ReassemblyInvariantIsKept :
    ∃ s t : State, s.RbInv ∧ step s = .next t ∧ s.rbActive = true :=
  ⟨testWith testHalf .tick, testNext testHalf (step (testWith testHalf .tick)), test_with_rbInv _ _ test_half_inv,
    test_next_of _ _ (by decide +kernel), by decide +kernel⟩

theorem test_flying_wf : testFlying.BuffersWf := by
  refine ⟨memWrite_wf [0x41#8] [] 0 Memory.wf_nil, ?_⟩
  intro i hi
  have h : Bank.get testFlying.rbData i = [] := Bank.get_fill [] i hi
  rw [h]
  exact Memory.wf_nil

theorem witness_BuffersStayCanonical : ∃ s t : State, s.BuffersWf ∧ step s = .next t ∧ s.txMsg ≠ [] :=
  ⟨testWith testFlying .tick, testNext testFlying (step (testWith testFlying .tick)), test_flying_wf,
    test_next_of _ _ (by decide +kernel), by decide +kernel⟩

/-- A send in flight meets the whole invariant, and a TICK goes on from it. -/
theorem witness_InvariantIsKept : ∃ s t : State, s.Inv ∧ step s = .next t ∧ s.arqState.inFlight = true := by
  have hp : ∀ i < 255, Bank.get testFlying.pending i = decide (i < 1) := by
    intro i hi
    have h : Bank.get testFlying.pending i = decide (i < sendTotal State.reset.params [0x41#8]) :=
      Bank.get_tabulate _ i hi
    rwa [show sendTotal State.reset.params [0x41#8] = 1 from by decide +kernel] at h
  have hr : ∀ i < 255, Bank.get testFlying.retryCnt i = 0#8 := fun i hi => Bank.get_fill 0#8 i hi
  have h1 : testFlying.txTotal.toNat = 1 := by decide +kernel
  have hrb : (testWith testFlying .tick).RbInv :=
    ⟨fun _ i hi => Bank.get_fill false i hi, fun h => absurd h (by decide +kernel),
      fun i hi h => absurd (h.symm.trans (Bank.get_fill false i hi)) (by decide)⟩
  refine ⟨testWith testFlying .tick, testNext testFlying (step (testWith testFlying .tick)),
    ⟨by decide +kernel, test_flying_wf, hrb, by decide +kernel, fun h => absurd h (by decide +kernel), fun _ => ?_⟩,
    test_next_of _ _ (by decide +kernel), by decide +kernel⟩
  refine ⟨by decide +kernel, ?_, ⟨0, by decide, hp 0 (by decide)⟩, ⟨?_, fun _ => rfl⟩, ⟨0, by decide +kernel, ?_⟩,
    by decide +kernel, by decide +kernel⟩
  · intro i hi hge
    have hge' : 1 ≤ i := h1 ▸ hge
    have := hp i hi
    rw [decide_eq_false (by omega)] at this
    exact this
  · intro _ i hi
    have hi' : i < 1 := h1 ▸ hi
    have := hp i (by omega)
    rw [decide_eq_true hi'] at this
    exact this
  · intro i hi
    have h0 : Bank.get (testWith testFlying .tick).retryCnt i = 0#8 := hr i hi
    rw [h0]
    simp

theorem witness_InvariantHoldsAtReset : Params.p16.Valid ∧ testTiny.params.Valid := by decide +kernel

/-- Every boundary of the reserved ranges, and a row of the file. -/
theorem witness_StatRdReadsTheStatusFile :
    ([] : Bytes).length ≠ 1 ∧ (0x0A#8 < 0x0B#8 ∧ 0x0B#8 < 0x10#8) ∧ (0x0A#8 < 0x0F#8 ∧ 0x0F#8 < 0x10#8) ∧ 0x14#8 < 0x15#8 ∧
    (0x14#8, State.reset.params.maxRetry.setWidth 32) ∈
      [(0x14#8, State.reset.params.maxRetry.setWidth 32)] := by decide +kernel

end Sys2Proof.Machine
end

