-- ==== Sys2Proof/Proofs/Crc.lean ====
section
/-! SUPPORT. The CRC-16 unit (spec/40_crc.md). The one idea: the bit step is linear over exclusive or, and for an odd
polynomial its only zero is the zero register. What an altered byte does to the check value is then the alteration
itself, shifted through the rest of the data, and never vanishes. -/

namespace Sys2Proof.Crc

open Sys2Proof.Machine

/-! ## The bit step -/

/-- The register's bits shifted, and the polynomial when bit 15 was set: the exclusive or of two parts, both linear. -/
theorem crcBit_eq_xor (poly r : Half) : crcBit poly r = (r <<< 1) ^^^ (if r.msb then poly else 0#16) := by
  unfold crcBit
  split <;> simp

@[simp] theorem crcBit_zero (poly : Half) : crcBit poly 0#16 = 0#16 := by simp [crcBit]

theorem crcBit_xor (poly a b : Half) : crcBit poly (a ^^^ b) = crcBit poly a ^^^ crcBit poly b := by
  have taps : (if (a ^^^ b).msb then poly else 0#16) =
      (if a.msb then poly else 0#16) ^^^ (if b.msb then poly else 0#16) := by
    rw [BitVec.msb_xor]
    cases a.msb <;> cases b.msb <;> simp
  simp only [crcBit_eq_xor, taps, BitVec.shiftLeft_xor_distrib]
  ac_rfl

/-- The bit step on numbers: a doubling cut to 16 bits, the polynomial added in when bit 15 was set (R92). -/
theorem crcBit_toNat (poly r : Half) :
    (crcBit poly r).toNat =
      if 32768 ≤ r.toNat then (2 * r.toNat % 65536) ^^^ poly.toNat else 2 * r.toNat % 65536 := by
  have double : (r <<< 1).toNat = 2 * r.toNat % 65536 := by
    simp [BitVec.toNat_shiftLeft, Nat.shiftLeft_eq, Nat.mul_comm]
  have top : r.msb = true ↔ 32768 ≤ r.toNat := by simp [BitVec.msb_eq_decide]
  unfold crcBit
  by_cases h : r.msb = true
  · rw [if_pos h, if_pos (top.mp h), BitVec.toNat_xor, double]
  · rw [if_neg h, if_neg (fun hr => h (top.mpr hr)), double]

/-- For an odd polynomial no register but zero steps to zero: bit 0 of the result shows bit 15 of the register. -/
theorem crcBit_eq_zero_iff {poly : Half} (odd : poly.getLsbD 0 = true) (r : Half) :
    crcBit poly r = 0#16 ↔ r = 0#16 := by
  refine ⟨fun h => ?_, fun h => h ▸ crcBit_zero poly⟩
  have top : r.msb = false := by
    cases hm : r.msb with
    | false => rfl
    | true =>
      have bit0 : (crcBit poly r).getLsbD 0 = true := by simp [crcBit, hm, odd]
      simp [h] at bit0
  rw [BitVec.msb_eq_decide, decide_eq_false_iff_not] at top
  have doubled := congrArg BitVec.toNat h
  rw [crcBit_toNat, if_neg top] at doubled
  bv_omega

/-! ## Several bit steps -/

theorem crcBits_succ (poly : Half) (n : Nat) (r : Half) :
    crcBits poly (n + 1) r = crcBits poly n (crcBit poly r) := rfl

theorem crcBits_add (poly : Half) (m n : Nat) (r : Half) :
    crcBits poly (m + n) r = crcBits poly n (crcBits poly m r) := by
  induction m generalizing r with
  | zero => simp [crcBits]
  | succ m ih => rw [Nat.succ_add, crcBits_succ, crcBits_succ, ih]

@[simp] theorem crcBits_zero (poly : Half) (n : Nat) : crcBits poly n 0#16 = 0#16 := by
  induction n with
  | zero => rfl
  | succ n ih => rw [crcBits_succ, crcBit_zero, ih]

theorem crcBits_xor (poly : Half) (n : Nat) (a b : Half) :
    crcBits poly n (a ^^^ b) = crcBits poly n a ^^^ crcBits poly n b := by
  induction n generalizing a b with
  | zero => rfl
  | succ n ih => rw [crcBits_succ, crcBit_xor, ih, crcBits_succ, crcBits_succ]

theorem crcBits_eq_zero_iff {poly : Half} (odd : poly.getLsbD 0 = true) (n : Nat) (r : Half) :
    crcBits poly n r = 0#16 ↔ r = 0#16 := by
  induction n generalizing r with
  | zero => rfl
  | succ n ih => rw [crcBits_succ, ih, crcBit_eq_zero_iff odd]

theorem crcBits_eq_repeat (poly : Half) (n : Nat) (r : Half) :
    crcBits poly n r = Nat.repeat (crcBit poly) n r := by
  induction n with
  | zero => rfl
  | succ n ih => rw [crcBits_add, ih]; rfl

/-- While the bits shifted out are clear, the polynomial plays no part. -/
theorem crcBits_eq_shiftLeft (poly : Half) (n : Nat) (r : Half) (h : r.toNat * 2 ^ n < 65536) :
    crcBits poly n r = r <<< n := by
  induction n generalizing r with
  | zero => simp [crcBits]
  | succ n ih =>
    rw [Nat.pow_succ', ← Nat.mul_assoc, Nat.mul_comm r.toNat 2] at h
    have small : 2 * r.toNat < 65536 := (Nat.le_mul_of_pos_right _ (Nat.two_pow_pos n)).trans_lt h
    have top : r.msb = false := by simp [BitVec.msb_eq_decide]; omega
    have first : crcBit poly r = r <<< 1 := by simp [crcBit, top]
    have double : (r <<< 1).toNat = 2 * r.toNat := by
      rw [← first, crcBit_toNat, if_neg (by omega), Nat.mod_eq_of_lt small]
    rw [crcBits_succ, first, ih _ (by rwa [double]), ← BitVec.shiftLeft_add, Nat.add_comm]

/-! ## Bytes -/

theorem crcByte_eq_repeat (poly r : Half) (b : Byte) :
    crcByte poly r b = Nat.repeat (crcBit poly) 8 (r ^^^ BitVec.ofNat 16 (256 * b.toNat)) := by
  have high : b.setWidth 16 <<< 8 = BitVec.ofNat 16 (256 * b.toNat) := by
    bv_omega
  rw [crcByte, crcBits_eq_repeat, high]

/-- A difference in the register goes through the byte step on its own. -/
theorem crcByte_xor_register (poly r x : Half) (b : Byte) :
    crcByte poly (r ^^^ x) b = crcByte poly r b ^^^ crcBits poly 8 x := by
  unfold crcByte
  rw [← crcBits_xor]
  congr 1
  ac_rfl

/-- A difference in the input byte acts as the same difference in the register's high half. -/
theorem crcByte_xor_input (poly r : Half) (b m : Byte) :
    crcByte poly r (b ^^^ m) = crcByte poly r b ^^^ crcBits poly 8 (m.setWidth 16 <<< 8) := by
  unfold crcByte
  rw [← crcBits_xor, BitVec.setWidth_xor, BitVec.shiftLeft_xor_distrib, BitVec.xor_assoc]

/-- A difference in the register goes through a byte string on its own. -/
theorem crcFrom_xor_register (poly r x : Half) (d : Bytes) :
    crcFrom poly (r ^^^ x) d = crcFrom poly r d ^^^ crcBits poly (8 * d.length) x := by
  induction d generalizing r x with
  | nil => simp [crcBits]
  | cons b d ih =>
    rw [crcFrom_cons, crcByte_xor_register, ih, crcFrom_cons, List.length_cons, Nat.mul_succ, Nat.add_comm,
      crcBits_add]

/-- Two bytes enter the register as one 16-bit value, most significant byte first. -/
theorem crcFrom_pair (poly r : Half) (hi lo : Byte) :
    crcFrom poly r [hi, lo] = crcBits poly 16 (r ^^^ (hi ++ lo)) := by
  have low : crcBits poly 8 (lo.setWidth 16) = lo.setWidth 16 <<< 8 :=
    crcBits_eq_shiftLeft poly 8 _ (by simp; omega)
  have glue : hi.setWidth 16 <<< 8 ^^^ lo.setWidth 16 = hi ++ lo := by
    ext i hi'
    rw [BitVec.getElem_append]
    split
    · next inLow => simp [inLow]
    · next inHigh =>
      have inHi : i - 8 < 8 := by omega
      simp [inHigh, BitVec.getLsbD_of_ge lo i (by omega), BitVec.getLsbD_eq_getElem inHi]
  calc crcFrom poly r [hi, lo]
      = crcBits poly 8 (crcBits poly 8 (r ^^^ hi.setWidth 16 <<< 8) ^^^ crcBits poly 8 (lo.setWidth 16)) := by
        rw [low]; rfl
    _ = crcBits poly 16 (r ^^^ (hi ++ lo)) := by
        rw [← crcBits_xor, ← crcBits_add poly 8 8, BitVec.xor_assoc, glue]

theorem crc16_append (p : Params) (c d : Bytes) : crc16 p (c ++ d) = crcFrom p.crcPoly (crc16 p c) d :=
  crcFrom_append _ _ _ _

/-- With the check value appended the register is zero (R97). -/
theorem crc16_append_check (p : Params) (d : Bytes) : crc16 p (d ++ be16 (crc16 p d)) = 0x0000#16 := by
  have rejoin : (crc16 p d).extractLsb' 8 8 ++ (crc16 p d).extractLsb' 0 8 = crc16 p d := unBe16_split _
  rw [crc16_append, be16, crcFrom_pair, rejoin, BitVec.xor_self, crcBits_zero]

/-- For an odd polynomial the register is zero only after the check value. -/
theorem crc16_append_pair_eq_zero_iff {p : Params} (odd : p.crcPoly.getLsbD 0 = true) (d : Bytes) (hi lo : Byte) :
    crc16 p (d ++ [hi, lo]) = 0x0000#16 ↔ crc16 p d = hi ++ lo := by
  rw [crc16_append, crcFrom_pair, crcBits_eq_zero_iff odd, BitVec.xor_eq_zero_iff]

/-- Settles O13: the two check bytes meet the register as one value, and sixteen odd steps send only zero to zero. -/
theorem crcOverDataAndChecksumIsZero : Obligations.CrcOverDataAndChecksumIsZero :=
  ⟨crc16_append_check, fun _ d hi lo odd => crc16_append_pair_eq_zero_iff odd d hi lo⟩

/-- Settles O11, from the bit step on numbers and the byte step as eight of them. -/
theorem crcByteStepIsEightShiftSteps : Obligations.CrcByteStepIsEightShiftSteps := by
  refine ⟨crcBit_toNat, fun p data b => ?_⟩
  rw [crc16_append, crcFrom_cons, crcFrom_nil, crcByte_eq_repeat]

/-! ## The two commands -/

theorem exec_crcCompute (data : Bytes) (s : State) : exec (.crcCompute data) s = execCrcCompute data s := rfl

theorem exec_crcVerify (claimed : Half) (data : Bytes) (s : State) :
    exec (.crcVerify claimed data) s = execCrcVerify claimed data s := rfl

theorem respond_eq_answered (s : State) (r : Bytes) : s.respond r = s.answered (0x00#8 :: r) := rfl

theorem raise_eq_answered (s : State) (e : Status) : s.raise e = s.answered [e.code] := rfl

theorem exec_crcCompute_of_le {data : Bytes} {s : State} (h : data.length ≤ maxFrame s.params) :
    exec (.crcCompute data) s = .next (s.answered (0x00#8 :: be16 (crc16 s.params data))) := by
  rw [exec_crcCompute, execCrcCompute, if_neg (Nat.not_lt.mpr h), respond_eq_answered]

theorem exec_crcCompute_of_lt {data : Bytes} {s : State} (h : maxFrame s.params < data.length) :
    exec (.crcCompute data) s = .next (s.answered [0x23#8]) := by
  rw [exec_crcCompute, execCrcCompute, if_pos h, raise_eq_answered, Status.code]

theorem exec_crcVerify_of_eq {claimed : Half} {data : Bytes} {s : State} (h : data.length ≤ maxFrame s.params)
    (hc : crc16 s.params data = claimed) :
    exec (.crcVerify claimed data) s = .next (s.answered [0x00#8, 0x01#8]) := by
  rw [exec_crcVerify, execCrcVerify, if_neg (Nat.not_lt.mpr h), decide_eq_true hc, respond_eq_answered,
    boolByte, if_pos rfl]

theorem exec_crcVerify_of_ne {claimed : Half} {data : Bytes} {s : State} (h : data.length ≤ maxFrame s.params)
    (hc : crc16 s.params data ≠ claimed) :
    exec (.crcVerify claimed data) s = .next (s.answered [0x00#8, 0x00#8]) := by
  rw [exec_crcVerify, execCrcVerify, if_neg (Nat.not_lt.mpr h), decide_eq_false hc, respond_eq_answered,
    boolByte, if_neg Bool.false_ne_true]

theorem exec_crcVerify_of_lt {claimed : Half} {data : Bytes} {s : State} (h : maxFrame s.params < data.length) :
    exec (.crcVerify claimed data) s = .next (s.answered [0x23#8]) := by
  rw [exec_crcVerify, execCrcVerify, if_pos h, raise_eq_answered, Status.code]

@[simp] theorem crc16_nil (p : Params) : crc16 p [] = 0xFFFF#16 := rfl

/-- Two bytes 0xFF cancel the initial register, whatever the polynomial (R94). -/
theorem crc16_ff_ff (p : Params) : crc16 p [0xFF#8, 0xFF#8] = 0x0000#16 := by
  have check : crc16 p ([] ++ be16 (crc16 p [])) = 0x0000#16 := crc16_append_check p []
  rwa [crc16_nil] at check

/-- The worked example of R94 and R95: the digits `123456789`. -/
theorem crc16_digits {p : Params} (h : p.crcPoly = 0x8005#16) :
    crc16 p [0x31#8, 0x32#8, 0x33#8, 0x34#8, 0x35#8, 0x36#8, 0x37#8, 0x38#8, 0x39#8] = 0xAEE7#16 := by
  rw [crc16, h]
  decide +kernel

/-- Settles O9, clause by clause from the command's two outcomes and the corner cases. -/
theorem crcComputeAnswersTheChecksum : Obligations.CrcComputeAnswersTheChecksum := fun _ _ =>
  ⟨rfl, exec_crcCompute_of_le, exec_crcCompute_of_lt, crc16_nil _, crc16_ff_ff _, crc16_digits⟩

/-- Opcode 0x02 needs two operand bytes (spec/30_encoding.md R69). -/
theorem decode_crcVerify_short (args : Bytes) (h : args.length < 2) :
    decode (.cmd (0x02#8 :: args)) = .error .badOperand := by
  match args, h with
  | [], _ => rfl
  | [_], _ => rfl

/-- Settles O10: the decoder's two cases, the command's three outcomes, and the examples as uses of them. -/
theorem crcVerifyComparesTheChecksum : Obligations.CrcVerifyComparesTheChecksum := by
  refine ⟨fun _ _ _ => rfl, decode_crcVerify_short, fun claimed data s =>
    ⟨exec_crcVerify_of_eq, exec_crcVerify_of_ne, exec_crcVerify_of_lt,
      exec_crcVerify_of_eq (Nat.zero_le _) (crc16_nil _), fun hp hf =>
        ⟨exec_crcVerify_of_eq hf (crc16_digits hp), exec_crcVerify_of_ne hf ?_⟩⟩⟩
  rw [crc16_digits hp]
  decide

/-! ## A frame with one bit flipped -/

@[simp] theorem flipBit_length (s : Bytes) (k : Nat) : (flipBit s k).length = s.length := by simp [flipBit]

/-- Flipping a stream bit alters one byte by a mask that is not zero, and no other byte. -/
theorem flipBit_cases {s : Bytes} {k : Nat} (h : k < 8 * s.length) :
    ∃ (a : Bytes) (b m : Byte) (c : Bytes), m ≠ 0#8 ∧ s = a ++ b :: c ∧ flipBit s k = a ++ (b ^^^ m) :: c := by
  have hk : k / 8 < s.length := by omega
  refine ⟨s.take (k / 8), s[k / 8], 1#8 <<< (7 - k % 8), s.drop (k / 8 + 1), ?_, by simp, ?_⟩
  · have : ∀ j < 8, 1#8 <<< j ≠ 0#8 := by decide
    exact this _ (by omega)
  · apply List.ext_getElem
    · simp; omega
    · intro i _ _
      rcases Nat.lt_trichotomy i (k / 8) with before | rfl | after
      · have other : i ≠ k / 8 := by omega
        simp [flipBit, before, before.trans hk, other]
      · simp [flipBit, Nat.le_of_lt hk]
      · obtain ⟨d, rfl⟩ := Nat.exists_eq_add_of_lt after
        have place : k / 8 + d + 1 - k / 8 = d + 1 := by omega
        have swap : k / 8 + 1 + d = k / 8 + d + 1 := by omega
        have other : k / 8 + d + 1 ≠ k / 8 := by omega
        simp [flipBit, List.getElem_append, Nat.le_of_lt hk, place, swap, other]

/-- A flipped bit changes the register, for an odd polynomial. -/
theorem crc16_flipBit_ne {p : Params} (odd : p.crcPoly.getLsbD 0 = true) {s : Bytes} {k : Nat}
    (h : k < 8 * s.length) : crc16 p (flipBit s k) ≠ crc16 p s := by
  obtain ⟨a, b, m, c, hm, hs, hf⟩ := flipBit_cases h
  have mask : m.setWidth 16 <<< 8 ≠ 0#16 := by bv_omega
  rw [hf, hs, crc16_append, crc16_append, crcFrom_cons, crcByte_xor_input, crcFrom_xor_register, crcFrom_cons]
  intro e
  have gone := (BitVec.xor_right_inj _).mp (e.trans BitVec.xor_zero.symm)
  rw [crcBits_eq_zero_iff odd, crcBits_eq_zero_iff odd] at gone
  exact mask gone

/-- A byte string is its front and the two bytes the check value is read from. -/
theorem take_append_last_two {f : Bytes} (h : 2 ≤ f.length) :
    f.take (f.length - 2) ++ [byteAt f (f.length - 2), byteAt f (f.length - 2 + 1)] = f := by
  obtain ⟨n, hn⟩ := Nat.exists_eq_add_of_le' h
  have last : f.drop n = [f[n], f[n + 1]] := by
    rw [List.drop_eq_getElem_cons (by omega), List.drop_eq_getElem_cons (by omega), List.drop_of_length_le (by omega)]
  have read : ∀ i (hi : i < f.length), byteAt f i = f[i] := fun i hi => by simp [byteAt, hi]
  rw [hn, Nat.add_sub_cancel, read n (by omega), read (n + 1) (by omega), ← last, List.take_append_drop]

/-- The comparison of FRM.DEC is the zero test over the whole frame, for an odd polynomial (R97). -/
theorem crc16_take_eq_halfAt_iff {p : Params} (odd : p.crcPoly.getLsbD 0 = true) {f : Bytes} (h : 2 ≤ f.length) :
    crc16 p (f.take (f.length - 2)) = halfAt f (f.length - 2) ↔ crc16 p f = 0x0000#16 := by
  rw [halfAt, unBe16, ← crc16_append_pair_eq_zero_iff odd, take_append_last_two h]

theorem frameDecode_of_crc_ne {p : Params} {f : Bytes} (hmin : minFrame ≤ f.length) (hmax : f.length ≤ maxFrame p)
    (h : crc16 p (f.take (f.length - 2)) ≠ halfAt f (f.length - 2)) : frameDecode p f = .error .integrity := by
  rw [frameDecode, if_neg (Nat.not_lt.mpr hmin), if_neg (Nat.not_lt.mpr hmax), if_pos h]

theorem cutBytes_length (bs : List Bool) : (cutBytes bs).length = bs.length / 8 := by
  fun_induction cutBytes bs with
  | case1 a b c d e f g h rest ih => simp [ih]; omega
  | case2 bs short =>
    match bs, short with
    | a :: b :: c :: d :: e :: f :: g :: h :: rest, short => exact (short a b c d e f g h rest rfl).elim
    | [], _ | [_], _ | [_, _], _ | [_, _, _], _ | [_, _, _, _], _ | [_, _, _, _, _], _ | [_, _, _, _, _, _], _
    | [_, _, _, _, _, _, _], _ => simp

/-- The length of the FEC image (spec/41_hamming.md R106). -/
theorem fecEncode_length (d : Bytes) : (fecEncode d).length = fecLen d.length := by
  simp [fecEncode, cutBytes_length, padToBytes, fecLen, ceilDiv]
  omega

/-- The length of a frame (spec/42_frame.md R121). -/
theorem frameEncode_length (p : Params) (seq fid total : Byte) (payload : Bytes) :
    (frameEncode p seq fid total payload).length = minFrame + fecLen payload.length := by
  simp [frameEncode, frameBody, fecEncode_length, minFrame]
  omega

theorem fecLen_mono {a b : Nat} (h : a ≤ b) : fecLen a ≤ fecLen b := by
  unfold fecLen ceilDiv
  omega

/-- A frame FRM.ENC made has a zero register (R97). -/
theorem crc16_frameEncode (p : Params) (seq fid total : Byte) (payload : Bytes) :
    crc16 p (frameEncode p seq fid total payload) = 0x0000#16 := crc16_append_check p _

/-- Settles O14: the made frame has a zero register, the flipped bit changes it, and FRM.DEC's comparison sees that. -/
theorem oneFlippedBitIsAlwaysRejected : Obligations.OneFlippedBitIsAlwaysRejected := by
  intro p seq fid total payload k odd hlen hk
  have size := frameEncode_length p seq fid total payload
  have bound := fecLen_mono hlen
  have changed := crc16_flipBit_ne odd hk
  rw [crc16_frameEncode] at changed
  apply frameDecode_of_crc_ne
  · simp [size]
  · simp [size, maxFrame, bound]
  · rwa [Ne, crc16_take_eq_halfAt_iff odd (by simp [size, minFrame]; omega)]

end Sys2Proof.Crc
end

/-! SUPPORT. The fragmentation manager (spec/43_fragmentation.md): what FRG.SHOULD, FRG.SPLIT, FRG.ACCEPT and FRG.DROP
answer and leave behind. A fragment that is accepted is first stored, whether or not it completes its message: what the
buffer then holds (`stored`) is said element by element, and completion and the message are read off it. -/

namespace Sys2Proof.Frag

open Sys2Proof.Machine

/-! ## The formats (spec/30_encoding.md R69) -/

theorem parseNone_of_ne_nil (k : Instr) {args : Bytes} (h : args ≠ []) :
    parseNone k args = .error .badOperand := by
  match args, h with
  | _ :: _, _ => rfl

theorem parseU32_of_length_ne (k : Word → Instr) {args : Bytes} (h : args.length ≠ 4) :
    parseU32 k args = .error .badOperand := by
  match args, h with
  | [], _ | [_], _ | [_, _], _ | [_, _, _], _ => rfl
  | [_, _, _, _], four => exact absurd rfl four
  | _ :: _ :: _ :: _ :: _ :: _, _ => rfl

theorem parseHdrData_of_short (k : Byte → Byte → Byte → Bytes → Instr) {args : Bytes} (h : args.length < 3) :
    parseHdrData k args = .error .badOperand := by
  match args, h with
  | [], _ | [_], _ | [_, _], _ => rfl

/-! ## FRG.SHOULD (R141) -/

theorem exec_frgShould (mlen : Word) (s : State) :
    exec (.frgShould mlen) s =
      .next (s.answered [0x00#8, if s.params.fragThreshold.toNat < mlen.toNat then 0x01#8 else 0x00#8]) := by
  have arm : exec (.frgShould mlen) s = .next (s.respond [boolByte (should s.params mlen.toNat)]) := rfl
  rw [arm, Crc.respond_eq_answered]
  simp [boolByte, should]

/-- Settles O27: the format's length, the comparison, and the examples as uses of it. -/
theorem frgShouldComparesWithTheThreshold : Obligations.FrgShouldComparesWithTheThreshold := by
  refine ⟨fun _ _ _ _ => rfl, fun _ => parseU32_of_length_ne _, exec_frgShould, fun s threshold => ?_⟩
  simp [exec_frgShould, threshold]

/-! ## FRG.SPLIT (R142) -/

/-- A fragment has the fragment size, but no more than is left of the message. -/
theorem splitPayload_length (p : Params) (msg : Bytes) (i : Nat) :
    (splitPayload p msg i).length = min p.fragmentSize.toNat (msg.length - i * p.fragmentSize.toNat) := by
  simp [splitPayload, slice]

theorem exec_frgSplit (msg : Bytes) (s : State) : exec (.frgSplit msg) s = execFrgSplit msg s := rfl

theorem exec_frgSplit_of_lt {msg : Bytes} {s : State} (h : maxFrags < splitCount s.params msg) :
    exec (.frgSplit msg) s = .next (s.answered [0x21#8]) := by
  rw [exec_frgSplit, execFrgSplit, if_pos h, Crc.raise_eq_answered, Status.code]

theorem exec_frgSplit_of_le {msg : Bytes} {s : State} (h : splitCount s.params msg ≤ maxFrags) :
    exec (.frgSplit msg) s =
      .next (s.answered (0x00#8 :: BitVec.ofNat 8 (splitCount s.params msg) ::
        (List.range (splitCount s.params msg)).flatMap fun i => withLength (splitPayload s.params msg i))) := by
  rw [exec_frgSplit, execFrgSplit, if_neg (Nat.not_lt.mpr h), Crc.respond_eq_answered, splitPayloads, List.flatMap_map]

/-- Settles O28: the count decides between the two outcomes, and each fragment's length field is its length. -/
theorem frgSplitAnswersTheFragments : Obligations.FrgSplitAnswersTheFragments := by
  rintro msg s fs n rfl - count
  have agree : splitCount s.params msg = n := count.symm
  refine ⟨rfl, fun many => exec_frgSplit_of_lt (agree ▸ many), fun few => ?_⟩
  rw [exec_frgSplit_of_le (agree ▸ few), agree]
  simp only [withLength, len16, splitPayload_length]
  rfl

/-! ## FRG.DROP (R150, R149) -/

@[simp] theorem popcount_fill_false : (Bank.fill false).popcount = 0 := by
  have clear : ∀ i ∈ List.range 255, ¬ Bank.get (Bank.fill false) i = true := fun i hi => by
    rw [Bank.get_fill _ _ (List.mem_range.mp hi)]
    exact Bool.false_ne_true
  rw [Bank.popcount, List.filter_eq_nil_iff.mpr clear, List.length_nil]

/-- Bit 16 of `RB_TAG` is `rb_active` (spec/10_state.md R27). -/
theorem rbTag_getLsbD_active (s : State) : s.rbTag.getLsbD 16 = s.rbActive := by
  rw [State.rbTag, BitVec.getLsbD_append, BitVec.getLsbD_append, BitVec.getLsbD_append]
  simp

/-- Settles O31: the state after FRG.DROP is the destroyed buffer with the response. -/
theorem frgDropDestroysTheBuffer : Obligations.FrgDropDestroysTheBuffer := by
  refine ⟨rfl, fun _ => parseNone_of_ne_nil _, fun s =>
    ⟨s.destroyRb.respond [], rfl, rfl, Bank.get_fill false, ?_, ?_⟩⟩
  · have count : (s.destroyRb.respond []).statValue 0x07#8 =
        some (BitVec.ofNat 32 (s.destroyRb.respond []).rbValid.popcount) := rfl
    rw [count, State.respond_rbValid, State.destroyRb_rbValid, popcount_fill_false]
  · exact ⟨_, rfl, rbTag_getLsbD_active _⟩

/-! ## A fragment stored (R145, R147) -/

/-- The state once a fragment is tagged and inserted, before the completion test (R148). -/
def stored (s : State) (key fid total : Byte) (payload : Bytes) : State :=
  (s.retag key total).insertFragment fid payload

/-- Slots stay valid under the tag they were filled under, and no other (R145). -/
theorem get_rbValid_retag (s : State) (key total : Byte) {i : Nat} (h : i < 255) :
    Bank.get (s.retag key total).rbValid i =
      (s.rbActive && decide (s.rbKey = key) && decide (s.rbTotal = total) && Bank.get s.rbValid i) := by
  rcases s.retag_cases key total with ⟨active, hkey, htotal, same⟩ | ⟨differs, fresh⟩
  · simp [same, active, hkey, htotal]
  · have other : (s.rbActive && decide (s.rbKey = key) && decide (s.rbTotal = total)) = false := by
      simpa [State.tagDiffers, or_assoc, imp_iff_not_or] using differs
    rw [fresh, other, Bool.false_and, Bank.get_fill _ _ h]

@[simp] theorem retag_rbLen (s : State) (key total : Byte) : (s.retag key total).rbLen = s.rbLen := by
  rw [State.retag_frame]

@[simp] theorem retag_rbData (s : State) (key total : Byte) : (s.retag key total).rbData = s.rbData := by
  rw [State.retag_frame]

section

variable (s : State) (key fid total : Byte) (payload : Bytes)

/-- Storing writes the buffer alone and leaves it active under the fragment's tag. -/
theorem stored_frame :
    stored s key fid total payload =
      { s with
        rbActive := true, rbKey := key, rbTotal := total
        rbValid := (stored s key fid total payload).rbValid
        rbLen := (stored s key fid total payload).rbLen
        rbData := (stored s key fid total payload).rbData } := by
  have frame := s.retag_frame key total
  obtain ⟨active, hkey, htotal⟩ := s.retag_tag key total
  rw [active, hkey, htotal] at frame
  rw [stored, frame]
  rfl

@[simp] theorem stored_rbTotal : (stored s key fid total payload).rbTotal = total := by
  rw [stored_frame]

variable {fid total}

theorem toNat_lt_of_lt {i : Nat} (h : i < total.toNat) : i < 255 := by omega

theorem get_rbValid_stored (hfid : fid.toNat < 255) {i : Nat} (hi : i < 255) :
    Bank.get (stored s key fid total payload).rbValid i = validAfter s key fid total i := by
  rw [stored, State.insertFragment_rbValid, Bank.get_put _ _ _ _ hfid, get_rbValid_retag s key total hi, validAfter]
  by_cases h : i = fid.toNat <;> simp [h]

theorem get_rbLen_stored (hfid : fid.toNat < 255) (i : Nat) :
    Bank.get (stored s key fid total payload).rbLen i =
      if i = fid.toNat then len16 payload else Bank.get s.rbLen i := by
  rw [stored, State.insertFragment_rbLen, Bank.get_put _ _ _ _ hfid, retag_rbLen]

theorem get_rbData_stored (hfid : fid.toNat < 255) (i : Nat) :
    Bank.get (stored s key fid total payload).rbData i =
      if i = fid.toNat then memWrite (Bank.get s.rbData fid.toNat) 0 payload else Bank.get s.rbData i := by
  rw [stored, State.insertFragment_rbData, Bank.get_put _ _ _ _ hfid, retag_rbData]

variable {s payload}

theorem storedIn_stored (hfid : fid.toNat < 255) (wf : s.BuffersWf) :
    StoredIn s (stored s key fid total payload) fid payload := by
  obtain ⟨-, slots⟩ := wf
  refine ⟨fun i _ => get_rbLen_stored s key payload hfid i, fun i _ a => ?_⟩
  rw [get_rbData_stored s key payload hfid]
  by_cases h : i = fid.toNat
  · subst h
    simp [read_memWrite payload _ 0 a (slots _ hfid)]
  · simp [h]

/-! ## Completion (R148) -/

/-- The completion test over the stored buffer is the completion of the fragment's message. -/
theorem rbComplete_stored_iff (hfid : fid.toNat < 255) :
    (stored s key fid total payload).rbComplete = true ↔ Completes s key fid total := by
  rw [State.rbComplete, stored_rbTotal, List.all_eq_true]
  refine forall_congr' fun i => ?_
  rw [List.mem_range]
  exact imp_congr_right fun hi => by rw [get_rbValid_stored s key payload hfid (toNat_lt_of_lt hi)]

/-- What a slot holds after the fragment was stored: its own slot the payload, every other what it held. -/
theorem rbSlot_stored (hfid : fid.toNat < 255) (wf : s.BuffersWf) (fits : payload.length < 65536) (i : Nat) :
    (stored s key fid total payload).rbSlot i =
      if i = fid.toNat then payload else memRead (Bank.get s.rbData i) 0 (Bank.get s.rbLen i).toNat := by
  obtain ⟨-, slots⟩ := wf
  rw [State.rbSlot, get_rbData_stored s key payload hfid, get_rbLen_stored s key payload hfid]
  by_cases h : i = fid.toNat
  · have size : (len16 payload).toNat = payload.length := Nat.mod_eq_of_lt fits
    rw [if_pos h, if_pos h, if_pos h, size, memRead_memWrite payload _ 0 _ (slots _ hfid) (by omega)]
    simp [slice]
  · rw [if_neg h, if_neg h, if_neg h]

theorem rbMessage_stored (hfid : fid.toNat < 255) (wf : s.BuffersWf) (fits : payload.length < 65536) :
    (stored s key fid total payload).rbMessage = completedMessage s fid total payload := by
  rw [State.rbMessage, stored_rbTotal, completedMessage, funext (rbSlot_stored key hfid wf fits)]

/-- `ACCEPT` when slots are still missing: the fragment is stored (R144). -/
theorem accept_of_not_completes (hfid : fid.toNat < 255) (h : ¬ Completes s key fid total) :
    s.accept key fid total payload = (stored s key fid total payload, none) := by
  rcases s.accept_cases key fid total payload with ⟨complete, -⟩ | ⟨-, answer⟩
  · exact absurd ((rbComplete_stored_iff key hfid).mp complete) h
  · exact answer

/-- `ACCEPT` of the last missing fragment: the message, and the buffer destroyed (R144, R148, R149). -/
theorem accept_of_completes (hfid : fid.toNat < 255) (wf : s.BuffersWf) (fits : payload.length < 65536)
    (h : Completes s key fid total) :
    s.accept key fid total payload =
      ((stored s key fid total payload).destroyRb, some (completedMessage s fid total payload)) := by
  rw [← rbMessage_stored key hfid wf fits]
  rcases s.accept_cases key fid total payload with ⟨-, answer⟩ | ⟨incomplete, -⟩
  · exact answer
  · exact absurd ((rbComplete_stored_iff key hfid).mpr h) (Bool.eq_false_iff.mp incomplete)

/-! ## The states the statements describe -/

theorem storedOnly_emitAll_stored (hfid : fid.toNat < 255) (wf : s.BuffersWf) (outs : List Output) :
    StoredOnly s ((stored s key fid total payload).emitAll outs) key fid total payload outs := by
  refine ⟨?_, fun i hi => get_rbValid_stored s key payload hfid hi, storedIn_stored key hfid wf⟩
  rw [stored_frame]
  rfl

theorem storedAndDestroyed_emitAll_stored (hfid : fid.toNat < 255) (wf : s.BuffersWf) (outs : List Output) :
    StoredAndDestroyed s ((stored s key fid total payload).destroyRb.emitAll outs) key fid total payload
      s.expectedRecvSeq outs := by
  refine ⟨?_, Bank.get_fill false, storedIn_stored key hfid wf⟩
  rw [stored_frame]
  rfl

end

/-! ## FRG.ACCEPT (R144) -/

theorem badMeta_iff (fid total : Byte) : badMeta fid total = true ↔ total = 0#8 ∨ total ≤ fid := by
  simp [badMeta]

theorem maxPayload_lt (p : Params) : maxPayload p < 65536 :=
  max_lt p.fragmentSize.isLt p.fragThreshold.isLt

section

variable {key fid total : Byte} {payload : Bytes} {s : State}

theorem exec_frgAccept :
    exec (.frgAccept key fid total payload) s = execFrgAccept key fid total payload s := rfl

theorem exec_frgAccept_of_lt (h : maxPayload s.params < payload.length) :
    exec (.frgAccept key fid total payload) s = .next (s.answered [0x23#8]) := by
  rw [exec_frgAccept, execFrgAccept, if_pos h, Crc.raise_eq_answered, Status.code]

theorem exec_frgAccept_of_badMeta (h : payload.length ≤ maxPayload s.params) (bad : total = 0#8 ∨ total ≤ fid) :
    exec (.frgAccept key fid total payload) s = .next (s.answered [0x13#8]) := by
  rw [exec_frgAccept, execFrgAccept, if_neg (Nat.not_lt.mpr h), if_pos ((badMeta_iff fid total).mpr bad),
    Crc.raise_eq_answered, Status.code]

theorem exec_frgAccept_of_good (h : payload.length ≤ maxPayload s.params) (good : fid < total) :
    exec (.frgAccept key fid total payload) s =
      .next ((s.accept key fid total payload).1.respond (acceptResult (s.accept key fid total payload).2)) := by
  have sound : ¬ badMeta fid total = true := by
    rw [badMeta_iff]
    bv_omega
  rw [exec_frgAccept, execFrgAccept, if_neg (Nat.not_lt.mpr h), if_neg sound]

/-- A fragment that is not refused is stored, and destroys the buffer when it completes its message. -/
theorem exec_frgAccept_stores (h : payload.length ≤ maxPayload s.params) (good : fid < total) (wf : s.BuffersWf) :
    ∃ t, exec (.frgAccept key fid total payload) s = .next t ∧
      (¬ Completes s key fid total → StoredOnly s t key fid total payload [.rsp [0x00#8, 0x00#8]]) ∧
      (Completes s key fid total →
        StoredAndDestroyed s t key fid total payload s.expectedRecvSeq
          [.rsp (0x00#8 :: 0x01#8 :: completedMessage s fid total payload)]) := by
  have hfid : fid.toNat < 255 := toNat_lt_of_lt good
  refine ⟨_, exec_frgAccept_of_good h good, fun missing => ?_, fun complete => ?_⟩
  · rw [accept_of_not_completes key hfid missing]
    exact storedOnly_emitAll_stored key hfid wf _
  · rw [accept_of_completes key hfid wf (h.trans_lt (maxPayload_lt s.params)) complete]
    exact storedAndDestroyed_emitAll_stored key hfid wf _

end

/-- Settles O30, from the two refusals and the stored fragment. -/
theorem frgAcceptStoresOrCompletes : Obligations.FrgAcceptStoresOrCompletes := fun _ _ _ _ _ =>
  ⟨rfl, fun _ => parseHdrData_of_short _, exec_frgAccept_of_lt, exec_frgAccept_of_badMeta, exec_frgAccept_stores⟩

end Sys2Proof.Frag

/-! SUPPORT. The ARQ sequencer (spec/44_arq.md): what ARQ.SEND, RX and TICK do, one equation per case of each. The
received frames fall into five kinds (`receiveFrame_cases`), a timeout and an acknowledgment into two each; a fragment of
a new message goes through the reassembly buffer as FRG.ACCEPT's does (`Frag.stored`), behind its acknowledgment. -/

namespace Sys2Proof.Arq

open Sys2Proof.Machine

/-! ## Starting a send (R162, R164, R165) -/

theorem lt_ceilDiv_iff {a b i : Nat} (hb : 0 < b) : i < ceilDiv a b ↔ i * b < a := by
  rw [ceilDiv, ← Nat.ceilDiv_eq_add_pred_div, ← not_le, ceilDiv_le_iff_le_mul hb, not_le, Nat.mul_comm]

theorem sendTotal_eq_totalOf (p : Params) (msg : Bytes) : sendTotal p msg = totalOf p msg := by
  simp [sendTotal, totalOf, should, fragsNeeded]

theorem fragmentSize_pos {p : Params} (valid : p.Valid) : 0 < p.fragmentSize.toNat := by
  obtain ⟨size, -⟩ := valid
  bv_omega

/-- A message ARQ.SEND does not refuse has 1 to 255 fragments. -/
theorem totalOf_bounds {p : Params} {msg : Bytes} (valid : p.Valid) (fits : ¬ TooLong p msg) :
    1 ≤ totalOf p msg ∧ totalOf p msg ≤ 255 := by
  unfold totalOf
  split
  · next long =>
    have few : ¬ 255 < ceilDiv msg.length p.fragmentSize.toNat := fun many => fits ⟨long, many⟩
    have pos : 0 < ceilDiv msg.length p.fragmentSize.toNat := by
      rw [lt_ceilDiv_iff (fragmentSize_pos valid)]
      omega
    omega
  · omega

theorem length_lt_of_not_tooLong {p : Params} {msg : Bytes} (valid : p.Valid) (fits : ¬ TooLong p msg) :
    msg.length < 2 ^ 32 := by
  rw [TooLong, lt_ceilDiv_iff (fragmentSize_pos valid)] at fits
  have size := p.fragmentSize.isLt
  have threshold := p.fragThreshold.isLt
  omega

/-- The stored message reads back as the fragments the message was to be cut into. -/
theorem txPayload_loadSend {s : State} {msg : Bytes} (valid : s.params.Valid) (wf : s.BuffersWf)
    (fits : ¬ TooLong s.params msg) {i : Nat} (hi : i < totalOf s.params msg) :
    (s.loadSend msg).txPayload i = payloadOf s.params msg i := by
  obtain ⟨txWf, -⟩ := wf
  obtain ⟨-, few⟩ := totalOf_bounds valid fits
  have size : (len32 msg).toNat = msg.length := Nat.mod_eq_of_lt (length_lt_of_not_tooLong valid fits)
  have single : BitVec.ofNat 8 (totalOf s.params msg) = 1#8 ↔ totalOf s.params msg = 1 := by bv_omega
  rw [State.txPayload, payloadOf, State.loadSend_txTotal, State.loadSend_txLen, State.loadSend_txMsg,
    State.loadSend_params, sendTotal_eq_totalOf, size]
  by_cases one : totalOf s.params msg = 1
  · rw [if_pos (single.mpr one), if_pos one, memRead_memWrite msg _ 0 _ txWf (by omega)]
    simp [slice]
  · have inside : i * s.params.fragmentSize.toNat < msg.length := by
      have long : s.params.fragThreshold.toNat < msg.length := by
        by_contra short
        exact one (if_neg short)
      rwa [totalOf, if_pos long, lt_ceilDiv_iff (fragmentSize_pos valid)] at hi
    rw [if_neg (single.not.mpr one), if_neg one, memRead_memWrite msg _ _ _ txWf (by omega)]
    simp [slice, List.take_eq_take_iff]

/-- The first round: every fragment's frame, in ascending id order. -/
theorem txBurst_loadSend {s : State} {msg : Bytes} (valid : s.params.Valid) (wf : s.BuffersWf)
    (fits : ¬ TooLong s.params msg) :
    (s.loadSend msg).txBurst (fun _ => true) =
      (List.range (totalOf s.params msg)).map fun i => Output.tx
        (frameEncode s.params (s.sendSeq.setWidth 8) (BitVec.ofNat 8 i)
          (BitVec.ofNat 8 (totalOf s.params msg)) (payloadOf s.params msg i)) := by
  obtain ⟨-, few⟩ := totalOf_bounds valid fits
  have count : (BitVec.ofNat 8 (totalOf s.params msg)).toNat = totalOf s.params msg :=
    Nat.mod_eq_of_lt (by omega)
  rw [State.txBurst, State.loadSend_txTotal, sendTotal_eq_totalOf, count, List.filter_true]
  refine List.map_congr_left fun i hi => ?_
  rw [State.txFrame, txPayload_loadSend valid wf fits (List.mem_range.mp hi), State.loadSend_params,
    State.loadSend_sendSeq, State.loadSend_txTotal, sendTotal_eq_totalOf]

theorem exec_arqSend (msg : Bytes) (s : State) : exec (.arqSend msg) s = execArqSend msg s := rfl

theorem tooLong_iff (p : Params) (msg : Bytes) :
    (should p msg.length && decide (maxFrags < fragsNeeded p msg.length)) = true ↔ TooLong p msg := by
  simp only [should, Bool.and_eq_true, decide_eq_true_eq]
  rfl

theorem exec_arqSend_of_inFlight {msg : Bytes} {s : State} (busy : s.arqState.inFlight = true) :
    exec (.arqSend msg) s = .next (s.raise .busy) := by
  rw [exec_arqSend, execArqSend, if_pos busy]

theorem exec_arqSend_of_tooLong {msg : Bytes} {s : State} (free : s.arqState.inFlight = false)
    (long : TooLong s.params msg) : exec (.arqSend msg) s = .next (s.raise .tooLong) := by
  rw [exec_arqSend, execArqSend, if_neg (Bool.eq_false_iff.mp free), if_pos ((tooLong_iff _ _).mpr long)]

theorem exec_arqSend_of_fits {msg : Bytes} {s : State} (free : s.arqState.inFlight = false)
    (fits : ¬ TooLong s.params msg) : exec (.arqSend msg) s = .next ((s.startSend msg).respond []) := by
  rw [exec_arqSend, execArqSend, if_neg (Bool.eq_false_iff.mp free), if_neg ((tooLong_iff _ _).not.mpr fits)]

theorem inFlight_eq_false_iff (a : ArqState) : a.inFlight = false ↔ a = .idle ∨ a = .acked ∨ a = .failed := by
  cases a <;> simp [ArqState.inFlight]

theorem inFlight_eq_true_iff (a : ArqState) : a.inFlight = true ↔ a = .pending ∨ a = .partiallyAcked := by
  cases a <;> simp [ArqState.inFlight]

/-- Settles O34: the send is accepted, its first round is the message's frames, and the buffer holds the message. -/
theorem arqSendStartsTheFirstRound : Obligations.ArqSendStartsTheFirstRound := by
  intro msg s valid wf free fits
  have ⟨txWf, _⟩ := wf
  obtain ⟨pos, few⟩ := totalOf_bounds valid fits
  refine ⟨_, exec_arqSend_of_fits ((inFlight_eq_false_iff _).mpr free) fits, ?_, pos, few, fun i hi => ?_,
    Bank.get_fill 0#8, fun a => ?_⟩
  · rw [State.startSend, txBurst_loadSend valid wf fits, ← sendTotal_eq_totalOf]
    rfl
  · have loaded : ((s.startSend msg).respond []).pending =
        Bank.tabulate fun i => decide (i < sendTotal s.params msg) := rfl
    rw [loaded, Bank.get_tabulate _ _ hi, sendTotal_eq_totalOf]
  · have held : ((s.startSend msg).respond []).txMsg = memWrite s.txMsg 0 msg := rfl
    rw [held, read_memWrite msg _ 0 a txWf]
    simp

/-! ## A timeout (R169, R170, R171) -/

theorem exec_tick (s : State) : exec .tick s = execTick s := rfl

theorem exec_tick_of_not_inFlight {s : State} (free : s.arqState.inFlight = false) : exec .tick s = .next s := by
  rw [exec_tick, execTick, if_neg (Bool.eq_false_iff.mp free)]

theorem exec_tick_of_lt {s : State} (busy : s.arqState.inFlight = true) (running : 1#32 < s.ackTimer) :
    exec .tick s = .next { s with ackTimer := s.ackTimer - 1#32 } := by
  rw [exec_tick, execTick, if_pos busy, if_pos running]

theorem exec_tick_of_le {s : State} (busy : s.arqState.inFlight = true) (expired : s.ackTimer ≤ 1#32) :
    exec .tick s = .next s.timeout := by
  rw [exec_tick, execTick, if_pos busy, if_neg (BitVec.not_lt.mpr expired)]

theorem get_retryCnt_bumpRetries (s : State) {i : Nat} (hi : i < 255) :
    Bank.get s.bumpRetries.retryCnt i = retryAfterTimeout s i := by
  rw [State.bumpRetries_retryCnt, Bank.get_tabulate _ _ hi, retryAfterTimeout]
  simp

/-- The ceiling test looks at the counters after the increment. -/
theorem ceilingReached_bumpRetries_iff (s : State) :
    s.bumpRetries.ceilingReached = true ↔ ReachesCeiling s := by
  rw [State.ceilingReached_iff, ReachesCeiling]
  refine exists_congr fun i => and_congr_right fun hi => ?_
  rw [get_retryCnt_bumpRetries s hi, State.bumpRetries_pending, State.bumpRetries_params]

theorem timeout_of_reachesCeiling {s : State} (h : ReachesCeiling s) : s.timeout = s.bumpRetries.sendFails := by
  rcases s.timeout_cases with ⟨-, failed⟩ | ⟨below, -⟩
  · exact failed
  · exact absurd ((ceilingReached_bumpRetries_iff s).mpr h) (Bool.eq_false_iff.mp below)

/-- Below the ceiling the skip clause of R170 never fires: what is retransmitted is what is pending (R179). -/
theorem timeout_of_not_reachesCeiling {s : State} (h : ¬ ReachesCeiling s) :
    s.timeout = (s.bumpRetries.emitAll (s.txBurst fun i => Bank.get s.pending i)).loadTimer := by
  have round : s.bumpRetries.txBurst (fun i => Bank.get s.bumpRetries.pending i &&
      decide (Bank.get s.bumpRetries.retryCnt i < s.params.maxRetry)) =
        s.txBurst fun i => Bank.get s.pending i := by
    refine congrArg (List.map _) (List.filter_congr fun i hi => ?_)
    have range : i < 255 := Frag.toNat_lt_of_lt (List.mem_range.mp hi)
    rw [get_retryCnt_bumpRetries s range, State.bumpRetries_pending]
    cases pending : Bank.get s.pending i with
    | false => rfl
    | true =>
      have below : retryAfterTimeout s i < s.params.maxRetry :=
        BitVec.not_le.mp fun reached => h ⟨i, range, pending, reached⟩
      simp [below]
  rcases s.timeout_cases with ⟨reached, -⟩ | ⟨-, resent⟩
  · exact absurd ((ceilingReached_bumpRetries_iff s).mp reached) h
  · rw [resent, round]

/-- Settles O42: the timeout's two outcomes, with the counters read after the increment. -/
theorem timeoutRetransmitsOrFails : Obligations.TimeoutRetransmitsOrFails := by
  intro s flying timer
  have tick : exec .tick s = .next s.timeout :=
    exec_tick_of_le ((inFlight_eq_true_iff _).mpr flying) (by bv_omega)
  refine ⟨fun reached => ?_, fun below => ⟨_, tick, ?_, fun i hi => ?_⟩⟩
  · rw [tick, timeout_of_reachesCeiling reached]
    rfl
  · rw [timeout_of_not_reachesCeiling below]
    rfl
  · rw [timeout_of_not_reachesCeiling below, State.loadTimer_retryCnt, State.emitAll_retryCnt,
      get_retryCnt_bumpRetries s hi]

/-! ## The kinds of received frames (R173) -/

section

variable {f : Bytes} {fr : Frame} {s : State}

theorem exec_rx_of_ok (h : frameDecode s.params f = .ok fr) : exec (.rx f) s = .next (s.receiveFrame fr) := by
  have arm : exec (.rx f) s = execRx f s := rfl
  rw [arm, execRx, h]

/-- A datagram that does not decode moves a drop counter alone. -/
theorem exec_rx_of_error {e : FrameError} (h : frameDecode s.params f = .error e) :
    exec (.rx f) s = .next s.dropMalformed ∨ exec (.rx f) s = .next s.dropIntegrity := by
  have arm : exec (.rx f) s = execRx f s := rfl
  rw [arm, execRx, h]
  cases e with
  | short | oversize | length => exact Or.inl rfl
  | integrity => exact Or.inr rfl

theorem counts_iff (s : State) (fr : Frame) :
    Counts s fr ↔ fr.payload = ackMarker ∧ s.ackCounts fr.seq fr.fid = true := by
  simp [Counts, ackMarker, State.ackCounts, and_assoc]

theorem goodData_iff (fr : Frame) :
    GoodData fr ↔ fr.payload ≠ ackMarker ∧ badMeta fr.fid fr.total = false := by
  simp [GoodData, ackMarker, badMeta]

theorem receiveFrame_of_counts (h : Counts s fr) : s.receiveFrame fr = s.applyAck fr.fid := by
  obtain ⟨marker, counts⟩ := (counts_iff s fr).mp h
  rw [State.receiveFrame, if_pos marker, if_pos counts]

theorem receiveFrame_of_not_counts (marker : fr.payload = ackMarker) (h : ¬ Counts s fr) :
    s.receiveFrame fr = s := by
  have ignored : ¬ s.ackCounts fr.seq fr.fid = true := fun counts => h ((counts_iff s fr).mpr ⟨marker, counts⟩)
  rw [State.receiveFrame, if_pos marker, if_neg ignored]

theorem receiveFrame_of_badMeta (data : fr.payload ≠ ackMarker) (bad : badMeta fr.fid fr.total = true) :
    s.receiveFrame fr = s.dropBadmeta := by
  rw [State.receiveFrame, if_neg data, if_pos bad]

theorem receiveFrame_of_goodData (h : GoodData fr) : s.receiveFrame fr = s.receiveData fr := by
  obtain ⟨data, sound⟩ := (goodData_iff fr).mp h
  rw [State.receiveFrame, if_neg data, if_neg (Bool.eq_false_iff.mp sound)]

theorem receiveFrame_of_duplicate (good : GoodData fr) (other : fr.seq ≠ s.expectedRecvSeq.setWidth 8) :
    s.receiveFrame fr = s.emit (.tx (s.ackFrame fr)) := by
  rw [receiveFrame_of_goodData good, State.receiveData, if_neg other]

theorem receiveFrame_of_new (good : GoodData fr) (expected : fr.seq = s.expectedRecvSeq.setWidth 8) :
    s.receiveFrame fr = (s.emit (.tx (s.ackFrame fr))).newMessage fr := by
  rw [receiveFrame_of_goodData good, State.receiveData, if_pos expected]

/-- What a decoded frame can do: one of five. -/
theorem receiveFrame_cases (s : State) (fr : Frame) :
    (Counts s fr ∧ s.receiveFrame fr = s.applyAck fr.fid) ∨
    (¬ Counts s fr ∧ s.receiveFrame fr = s) ∨
    (¬ Counts s fr ∧ s.receiveFrame fr = s.dropBadmeta) ∨
    (¬ Counts s fr ∧ s.receiveFrame fr = s.emit (.tx (s.ackFrame fr))) ∨
    (¬ Counts s fr ∧ fr.seq = s.expectedRecvSeq.setWidth 8 ∧
      s.receiveFrame fr = (s.emit (.tx (s.ackFrame fr))).newMessage fr) := by
  by_cases counts : Counts s fr
  · exact .inl ⟨counts, receiveFrame_of_counts counts⟩
  by_cases marker : fr.payload = ackMarker
  · exact .inr (.inl ⟨counts, receiveFrame_of_not_counts marker counts⟩)
  cases bad : badMeta fr.fid fr.total with
  | true => exact .inr (.inr (.inl ⟨counts, receiveFrame_of_badMeta marker bad⟩))
  | false =>
    have good : GoodData fr := (goodData_iff fr).mpr ⟨marker, bad⟩
    by_cases expected : fr.seq = s.expectedRecvSeq.setWidth 8
    · exact .inr (.inr (.inr (.inr ⟨counts, expected, receiveFrame_of_new good expected⟩)))
    · exact .inr (.inr (.inr (.inl ⟨counts, receiveFrame_of_duplicate good expected⟩)))

end

/-- Settles O40: the state with the acknowledgment emitted is the whole outcome. -/
theorem duplicatesAreAcknowledgedOnly : Obligations.DuplicatesAreAcknowledgedOnly := by
  intro f fr s ok good other
  rw [exec_rx_of_ok ok, receiveFrame_of_duplicate good other]
  rfl

/-! ## An acknowledgment that counts (R166, R167, R168) -/

section

variable {fr : Frame} {s : State}

theorem fid_lt_of_counts (h : Counts s fr) : fr.fid.toNat < 255 := by
  obtain ⟨-, -, -, below, -⟩ := h
  exact Frag.toNat_lt_of_lt below

/-- The pending set without `fid` has an element exactly when another id was pending. -/
theorem get_clearPending_iff {fid : Byte} (hfid : fid.toNat < 255) (i : Nat) :
    Bank.get (s.clearPending fid).pending i = true ↔ i ≠ fid.toNat ∧ Bank.get s.pending i = true := by
  rw [State.clearPending_pending, Bank.get_put _ _ _ _ hfid]
  by_cases own : i = fid.toNat <;> simp [own]

theorem applyAck_of_othersPending {fid : Byte} (hfid : fid.toNat < 255) (h : OthersPending s fid) :
    s.applyAck fid = { s.clearPending fid with arqState := .partiallyAcked } := by
  obtain ⟨i, hi, other⟩ := h
  rcases s.applyAck_cases fid with ⟨empty, -⟩ | ⟨-, remains⟩
  · exact absurd ((get_clearPending_iff hfid i).mpr other) (Bool.eq_false_iff.mp (empty i hi))
  · exact remains

theorem applyAck_of_not_othersPending {fid : Byte} (hfid : fid.toNat < 255) (h : ¬ OthersPending s fid) :
    s.applyAck fid = { s.sendSucceeds with pending := Bank.fill false } := by
  rcases s.applyAck_cases fid with ⟨empty, last⟩ | ⟨⟨i, hi, other⟩, -⟩
  · have released : (s.clearPending fid).pending = Bank.fill false :=
      Bank.ext _ _ fun i hi => by rw [empty i hi, Bank.get_fill _ _ hi]
    rw [last, ← released]
    rfl
  · exact absurd ⟨i, hi, (get_clearPending_iff hfid i).mp other⟩ h

end

/-- Settles O36: the two outcomes of an acknowledgment that counts. -/
theorem countingAckIsApplied : Obligations.CountingAckIsApplied := by
  intro f fr s ok counts
  have hfid := fid_lt_of_counts counts
  rw [exec_rx_of_ok ok, receiveFrame_of_counts counts]
  refine ⟨fun others => ?_, fun last => ?_⟩
  · rw [applyAck_of_othersPending hfid others]
    rfl
  · rw [applyAck_of_not_othersPending hfid last]
    rfl

/-! ## A fragment of a new message (R175, R176) -/

section

variable {f : Bytes} {fr : Frame} {s : State}

theorem payload_length_lt {p : Params} (h : frameDecode p f = .ok fr) : fr.payload.length < 65536 := by
  obtain ⟨-, -, -, -, rfl⟩ := (frameDecode_ok_iff p f fr).mp h
  rw [fecDecode_length]
  exact (halfAt f (f.length - 4)).isLt

/-- The reassembly buffer does not see what was emitted. -/
theorem stored_emit (s : State) (o : Output) (key fid total : Byte) (payload : Bytes) :
    Frag.stored (s.emit o) key fid total payload = (Frag.stored s key fid total payload).emit o := by
  have tagged : (s.emit o).retag key total = (s.retag key total).emit o := by
    have test : (s.emit o).tagDiffers key total = s.tagDiffers key total := rfl
    rw [State.retag, State.retag, test]
    split <;> rfl
  rw [Frag.stored, tagged]
  rfl

theorem newMessage_of_not_completes (good : GoodData fr) (missing : ¬ Completes s fr.seq fr.fid fr.total) :
    s.newMessage fr = Frag.stored s fr.seq fr.fid fr.total fr.payload := by
  obtain ⟨-, -, below⟩ := good
  rw [State.newMessage, Frag.accept_of_not_completes fr.seq (Frag.toNat_lt_of_lt below) missing]

theorem newMessage_of_completes (good : GoodData fr) (wf : s.BuffersWf) (fits : fr.payload.length < 65536)
    (complete : Completes s fr.seq fr.fid fr.total) :
    s.newMessage fr = (Frag.stored s fr.seq fr.fid fr.total fr.payload).destroyRb.deliver
      (completedMessage s fr.fid fr.total fr.payload) := by
  obtain ⟨-, -, below⟩ := good
  rw [State.newMessage, Frag.accept_of_completes fr.seq (Frag.toNat_lt_of_lt below) wf fits complete]

/-- A delivery adds the message to the outputs and toggles the expected bit (R176). -/
theorem storedAndDestroyed_deliver {t : State} {key fid total : Byte} {payload : Bytes} {recv : BitVec 1}
    {outs : List Output} (h : StoredAndDestroyed s t key fid total payload recv outs) (msg : Bytes) :
    StoredAndDestroyed s (t.deliver msg) key fid total payload (recv ^^^ 1#1) (outs ++ [.dlv msg]) := by
  obtain ⟨frame, invalid, slots⟩ := h
  refine ⟨?_, invalid, slots⟩
  rw [← List.append_assoc]
  exact congrArg (fun u : State => u.deliver msg) frame

end

/-- Settles O39: the acknowledgment, then what FRG.ACCEPT would store, delivered when it completes the message. -/
theorem newDataIsAcknowledgedStoredAndDelivered : Obligations.NewDataIsAcknowledgedStoredAndDelivered := by
  rintro f fr s ack ok good expected wf rfl
  have hfid : fr.fid.toNat < 255 := by
    obtain ⟨-, -, below⟩ := good
    exact Frag.toNat_lt_of_lt below
  rw [exec_rx_of_ok ok, receiveFrame_of_new good expected]
  refine ⟨_, rfl, fun missing => ?_, fun complete => ?_⟩
  · rw [newMessage_of_not_completes (s := s.emit _) good missing, stored_emit]
    exact Frag.storedOnly_emitAll_stored fr.seq hfid wf [.tx (s.ackFrame fr)]
  · rw [newMessage_of_completes (s := s.emit _) good wf (payload_length_lt ok) complete, stored_emit]
    exact storedAndDestroyed_deliver
      (Frag.storedAndDestroyed_emitAll_stored fr.seq hfid wf [.tx (s.ackFrame fr)]) _

/-! ## Duplicate suppression (R180) -/

/-- The new-message path stores, and either delivers or does not. -/
theorem newMessage_cases (s : State) (fr : Frame) :
    (∃ msg, s.newMessage fr = (s.accept fr.seq fr.fid fr.total fr.payload).1.deliver msg) ∨
    s.newMessage fr = (s.accept fr.seq fr.fid fr.total fr.payload).1 := by
  rcases s.accept_cases fr.seq fr.fid fr.total fr.payload with ⟨-, answer⟩ | ⟨-, answer⟩
  · exact .inl ⟨_, by rw [State.newMessage, answer]⟩
  · exact .inr (by rw [State.newMessage, answer])

@[simp] theorem accept_emitted (s : State) (key fid total : Byte) (payload : Bytes) :
    (s.accept key fid total payload).1.emitted = s.emitted := by
  rw [State.accept_frame]

@[simp] theorem accept_expectedRecvSeq (s : State) (key fid total : Byte) (payload : Bytes) :
    (s.accept key fid total payload).1.expectedRecvSeq = s.expectedRecvSeq := by
  rw [State.accept_frame]

@[simp] theorem accept_params (s : State) (key fid total : Byte) (payload : Bytes) :
    (s.accept key fid total payload).1.params = s.params := by
  rw [State.accept_frame]

@[simp] theorem accept_arqState (s : State) (key fid total : Byte) (payload : Bytes) :
    (s.accept key fid total payload).1.arqState = s.arqState := by
  rw [State.accept_frame]

/-- An acknowledgment changes the outputs only by the EVT of the last one. -/
theorem applyAck_emitted (s : State) (fid : Byte) :
    (s.applyAck fid).emitted = s.emitted ∨ ∃ code, (s.applyAck fid).emitted = s.emitted ++ [.evt sendDone code] := by
  rcases s.applyAck_cases fid with ⟨-, last⟩ | ⟨-, remains⟩
  · exact .inr ⟨_, by rw [last]; rfl⟩
  · exact .inl (by rw [remains]; rfl)

/-- Only the completion of a new message ends an RX with a DLV. -/
theorem receiveFrame_of_delivers {fr : Frame} {s : State} {msg : Bytes}
    (last : (s.receiveFrame fr).emitted.getLast? = some (.dlv msg))
    (moved : (s.receiveFrame fr).emitted ≠ s.emitted) :
    fr.seq = s.expectedRecvSeq.setWidth 8 ∧
      s.receiveFrame fr =
        ((s.emit (.tx (s.ackFrame fr))).accept fr.seq fr.fid fr.total fr.payload).1.deliver msg := by
  rcases receiveFrame_cases s fr with
    ⟨-, h⟩ | ⟨-, h⟩ | ⟨-, h⟩ | ⟨-, h⟩ | ⟨-, expected, h⟩ <;> rw [h] at last moved ⊢
  · rcases applyAck_emitted s fr.fid with same | ⟨code, event⟩
    · exact absurd same moved
    · simp [event] at last
  · exact absurd rfl moved
  · exact absurd rfl moved
  · simp at last
  · rcases newMessage_cases (s.emit (.tx (s.ackFrame fr))) fr with ⟨m, delivered⟩ | kept
    · rw [delivered] at last ⊢
      obtain rfl : m = msg := by simpa using last
      exact ⟨expected, rfl⟩
    · simp [kept] at last

/-- The other value of a sequence bit is another byte. -/
theorem setWidth_toggle_ne (b : BitVec 1) : b.setWidth 8 ≠ (b ^^^ 1#1).setWidth 8 := by
  revert b
  decide

/-- Settles O45: a delivery leaves the other bit expected, and under that bit its own sequence byte is a duplicate's. -/
theorem deliveredMessagesAreNotDeliveredAgain : Obligations.DeliveredMessagesAreNotDeliveredAgain := by
  intro f fr s t msg ok run last moved
  rw [exec_rx_of_ok ok, Host.Outcome.next.injEq] at run
  subst run
  obtain ⟨expected, delivered⟩ := receiveFrame_of_delivers last moved
  have bit : fr.seq.setWidth 1 = s.expectedRecvSeq := by
    rw [expected]
    bv_omega
  rw [delivered, bit]
  refine ⟨by simp, by simp [State.ackFrame, ackMarker], fun g gr u params toggled gok good sameSeq => ?_⟩
  have params : u.params = s.params := by simpa using params
  have toggled : u.expectedRecvSeq = s.expectedRecvSeq ^^^ 1#1 := by simpa using toggled
  have other : gr.seq ≠ u.expectedRecvSeq.setWidth 8 := by
    rw [sameSeq, expected, toggled]
    exact setWidth_toggle_ne _
  rw [duplicatesAreAcknowledgedOnly g gr u gok good other, params]

/-! ## The transition table (R172) -/

/-- A command that answers, refused or not, leaves the send side's state. -/
theorem arqState_of_answer {s t : State} {c : Prop} [Decidable c] {e : Status} {r : Bytes}
    (h : (if c then .next (s.raise e) else .next (s.respond r) : Host.Outcome State Fault Refusal) = .next t) :
    t.arqState = s.arqState := by
  split at h <;> cases h <;> rfl

theorem arqState_frmDec {f : Bytes} {s t : State} (h : exec (.frmDec f) s = .next t) : t.arqState = s.arqState := by
  have arm : exec (.frmDec f) s = execFrmDec f s := rfl
  rw [arm, execFrmDec] at h
  split at h <;> cases h <;> rfl

theorem arqState_statRd {idx : Byte} {s t : State} (h : exec (.statRd idx) s = .next t) :
    t.arqState = s.arqState := by
  have arm : exec (.statRd idx) s = execStatRd idx s := rfl
  rw [arm, execStatRd] at h
  split at h <;> cases h <;> rfl

theorem arqState_frgAccept {key fid total : Byte} {payload : Bytes} {s t : State}
    (h : exec (.frgAccept key fid total payload) s = .next t) : t.arqState = s.arqState := by
  rw [Frag.exec_frgAccept, execFrgAccept] at h
  split at h
  · cases h; rfl
  · split at h <;> cases h
    · rfl
    · simp

theorem newMessage_arqState (s : State) (fr : Frame) : (s.newMessage fr).arqState = s.arqState := by
  rcases newMessage_cases s fr with ⟨msg, delivered⟩ | kept
  · simp [delivered]
  · simp [kept]

/-- Only an acknowledgment that counts moves the send side (R166). -/
theorem receiveFrame_arqState_of_not_counts {s : State} {fr : Frame} (h : ¬ Counts s fr) :
    (s.receiveFrame fr).arqState = s.arqState := by
  rcases receiveFrame_cases s fr with
    ⟨counts, -⟩ | ⟨-, e⟩ | ⟨-, e⟩ | ⟨-, e⟩ | ⟨-, -, e⟩
  · exact absurd counts h
  · rw [e]
  · rw [e, State.dropBadmeta_arqState]
  · rw [e, State.emit_arqState]
  · rw [e, newMessage_arqState, State.emit_arqState]

theorem arqTransition_rx {f : Bytes} {s t : State} (h : exec (.rx f) s = .next t) :
    ArqTransition s (.rx f) t.arqState := by
  cases decoded : frameDecode s.params f with
  | error e =>
    have same : t.arqState = s.arqState := by
      rcases exec_rx_of_error decoded with drop | drop <;> rw [drop] at h <;> cases h <;> rfl
    simp [ArqTransition, decoded, same]
  | ok fr =>
    rw [exec_rx_of_ok decoded] at h
    cases h
    have unique : ∀ gr, frameDecode s.params f = .ok gr → gr = fr := fun gr same =>
      Except.ok.inj (same.symm.trans decoded)
    refine ⟨fun gr same counts others => ?_, fun gr same counts last => ?_,
      fun ignored => receiveFrame_arqState_of_not_counts (ignored fr decoded)⟩
    · obtain rfl := unique gr same
      rw [receiveFrame_of_counts counts, applyAck_of_othersPending (fid_lt_of_counts counts) others]
    · obtain rfl := unique gr same
      rw [receiveFrame_of_counts counts, applyAck_of_not_othersPending (fid_lt_of_counts counts) last]
      rfl

theorem arqTransition_tick {s t : State} (h : exec .tick s = .next t) : ArqTransition s .tick t.arqState := by
  cases flying : s.arqState.inFlight with
  | false =>
    rw [exec_tick_of_not_inFlight flying] at h
    cases h
    simp [ArqTransition, flying]
  | true =>
    by_cases expired : s.ackTimer ≤ 1#32
    · rw [exec_tick_of_le flying expired] at h
      cases h
      refine ⟨fun _ _ reached => ?_, fun h => ?_⟩
      · rw [timeout_of_reachesCeiling reached, State.sendFails_arqState]
      · have below : ¬ ReachesCeiling s := fun reached => h ⟨flying, expired, reached⟩
        rw [timeout_of_not_reachesCeiling below, State.loadTimer_arqState, State.emitAll_arqState,
          State.bumpRetries_arqState]
    · rw [exec_tick_of_lt flying (BitVec.not_le.mp expired)] at h
      cases h
      exact ⟨fun _ le _ => absurd le expired, fun _ => rfl⟩

theorem arqTransition_arqSend {msg : Bytes} {s t : State} (h : exec (.arqSend msg) s = .next t) :
    ArqTransition s (.arqSend msg) t.arqState := by
  refine ⟨fun busy => ?_, fun free long => ?_, fun free fits => ?_⟩
  · rw [exec_arqSend_of_inFlight busy] at h
    cases h
    rfl
  · rw [exec_arqSend_of_tooLong free long] at h
    cases h
    rfl
  · rw [exec_arqSend_of_fits free fits] at h
    cases h
    rfl

/-- Settles O43: the three operations of the sequencer by their cases, every other one by its answer. -/
theorem arqTransitionTable : Obligations.ArqTransitionTable := by
  intro i s t h
  cases i with
  | arqSend msg => exact arqTransition_arqSend h
  | rx f => exact arqTransition_rx h
  | tick => exact arqTransition_tick h
  | reset => cases h; rfl
  | frgAccept => exact arqState_frgAccept h
  | frgDrop => cases h; rfl
  | frgShould => cases h; rfl
  | frmDec => exact arqState_frmDec h
  | statRd => exact arqState_statRd h
  | crcCompute | crcVerify | hamEnc | hamDec | fecEnc | fecDec | frmEnc | frgSplit => exact arqState_of_answer h

end Sys2Proof.Arq

/-! SUPPORT. Command dispatch and the status file (spec/45_system.md). A refused transaction is answered by one rule of
the step, whichever cause the dispatcher names; STAT.RD answers by whether the file has content at the index. -/

namespace Sys2Proof.System

open Sys2Proof.Machine

/-! ## Refused transactions (spec/45_system.md R200) -/

/-- The dispatcher's refusal: one RSP with the code alone, and the transaction is taken. -/
theorem step_of_decode_error {s : State} {e : Event} {rest : List (List Event)} {r : CmdError}
    (next : nextEvent s.presented = some (e, rest)) (refused : decode e = .error r) :
    step s = .next (({ s with presented := rest } : State).answered [(cmdErrorStatus r).code]) := by
  rw [step, next]
  simp only [refused, Crc.raise_eq_answered]

/-! ### Illegal commands (R203) -/

/-- Opcodes outside the map of spec/30_encoding.md R72: every arm of the map names one of the 14. -/
theorem decodeCmd_of_unknown {op : Byte} (args : Bytes)
    (unknown : op ∉ [0x01#8, 0x02#8, 0x10#8, 0x11#8, 0x12#8, 0x13#8, 0x20#8, 0x21#8, 0x30#8, 0x31#8, 0x32#8, 0x33#8,
      0x40#8, 0x41#8]) :
    decodeCmd (op :: args) = .error .illegalCmd := by
  rw [decodeCmd]
  all_goals
    rintro rfl
    exact unknown (by decide)

/-- Settles O4: both causes are one refusal of the dispatcher. -/
theorem illegalCommandsAreRefused : Obligations.IllegalCommandsAreRefused := by
  intro s c rest next unknown
  have refused : decode (.cmd c) = .error .illegalCmd := by
    cases c with
    | nil => rfl
    | cons op args => exact decodeCmd_of_unknown args (unknown op args rfl)
  exact step_of_decode_error next refused

/-! ### Wrong lengths (R202) -/

theorem parseU8_of_length_ne (k : Byte → Instr) {args : Bytes} (h : args.length ≠ 1) :
    parseU8 k args = .error .badOperand := by
  match args, h with
  | [], _ => rfl
  | [_], one => exact absurd rfl one
  | _ :: _ :: _, _ => rfl

theorem parseU16Data_of_short (k : Half → Bytes → Instr) {args : Bytes} (h : args.length < 2) :
    parseU16Data k args = .error .badOperand := by
  match args, h with
  | [], _ | [_], _ => rfl

/-- Settles O5: the opcode chooses the format, and the format's length lemma refuses. -/
theorem wrongLengthsAreRefused : Obligations.WrongLengthsAreRefused := by
  intro s op args rest next wrong
  have refused : decode (.cmd (op :: args)) = .error .badOperand := by
    simp only [List.mem_cons, List.not_mem_nil, or_false] at wrong
    rcases wrong with ⟨rfl, more⟩ | ⟨op, u8⟩ | ⟨rfl, u32⟩ | ⟨op, u16⟩ | ⟨op, hdr⟩
    · exact Frag.parseNone_of_ne_nil _ more
    · rcases op with rfl | rfl | rfl <;> exact parseU8_of_length_ne _ u8
    · exact Frag.parseU32_of_length_ne _ u32
    · rcases op with rfl | rfl <;> exact parseU16Data_of_short _ u16
    · rcases op with rfl | rfl <;> exact Frag.parseHdrData_of_short _ hdr
  exact step_of_decode_error next refused

/-! ## The status file (spec/10_state.md R27) -/

/-! ### The packed registers -/

/-- Two fields side by side as one number. -/
theorem toNat_append_eq_add {m n : Nat} (hi : BitVec m) (lo : BitVec n) :
    (hi ++ lo).toNat = 2 ^ n * hi.toNat + lo.toNat := by
  rw [BitVec.toNat_append, ← Nat.shiftLeft_add_eq_or_of_lt lo.isLt, Nat.shiftLeft_eq, Nat.mul_comm]

/-- `SEQ_BITS`: the send bit below the receive bit. -/
theorem seqBits_eq (s : State) :
    (s.expectedRecvSeq ++ s.sendSeq : BitVec 2).setWidth 32 =
      BitVec.ofNat 32 (s.sendSeq.toNat + 2 * s.expectedRecvSeq.toNat) := by
  apply BitVec.eq_of_toNat_eq
  rw [BitVec.toNat_setWidth, toNat_append_eq_add, BitVec.toNat_ofNat, Nat.pow_one, Nat.add_comm]

/-- `RB_TAG`: the total lowest, the key at bit 8, the active bit at 16. -/
theorem rbTag_eq (s : State) :
    s.rbTag = BitVec.ofNat 32 (s.rbTotal.toNat + 256 * s.rbKey.toNat + 65536 * s.rbActive.toNat) := by
  apply BitVec.eq_of_toNat_eq
  rw [State.rbTag]
  simp only [toNat_append_eq_add, BitVec.toNat_ofNat, BitVec.toNat_ofBool]
  have active_le : s.rbActive.toNat ≤ 1 := s.rbActive.toNat_le
  omega

/-! ### The largest retry counter -/

/-- The counters of the pending fragments, which `RETRY_CNT` is the largest of. -/
def pendingCounters (s : State) : List Nat :=
  ((List.range 255).filter fun i => Bank.get s.pending i).map fun i => (Bank.get s.retryCnt i).toNat

theorem mem_pendingCounters {s : State} {n : Nat} :
    n ∈ pendingCounters s ↔ ∃ i < 255, Bank.get s.pending i = true ∧ (Bank.get s.retryCnt i).toNat = n := by
  simp [pendingCounters, and_assoc]

/-- The model's fold is the maximum of the list with the 0 it starts from. -/
theorem max?_pendingCounters (s : State) : (0 :: pendingCounters s).max? = some s.maxPendingRetry := by
  rw [List.max?_cons', pendingCounters, List.foldl_map, List.foldl_filter]
  rfl

theorem retryCnt_le_maxPendingRetry {s : State} {i : Nat} (hi : i < 255) (pending : Bank.get s.pending i = true) :
    (Bank.get s.retryCnt i).toNat ≤ s.maxPendingRetry :=
  (List.max?_eq_some_iff.mp (max?_pendingCounters s)).2 _
    (List.mem_cons_of_mem _ (mem_pendingCounters.mpr ⟨i, hi, pending, rfl⟩))

theorem maxPendingRetry_attained (s : State) :
    s.maxPendingRetry = 0 ∨
      ∃ i < 255, Bank.get s.pending i = true ∧ (Bank.get s.retryCnt i).toNat = s.maxPendingRetry := by
  obtain ⟨listed, -⟩ := List.max?_eq_some_iff.mp (max?_pendingCounters s)
  exact (List.mem_cons.mp listed).imp_right mem_pendingCounters.mp

/-! ### The reserved indices -/

theorem statValue_of_reserved (s : State) {idx : Byte}
    (reserved : (0x0A#8 < idx ∧ idx < 0x10#8) ∨ 0x14#8 < idx) : s.statValue idx = none := by
  rw [State.statValue]
  all_goals
    rintro rfl
    exact absurd reserved (by decide)

/-! ### STAT.RD (R201) -/

theorem exec_statRd (idx : Byte) (s : State) : exec (.statRd idx) s = execStatRd idx s := rfl

theorem exec_statRd_of_some {idx : Byte} {s : State} {v : Word} (h : s.statValue idx = some v) :
    exec (.statRd idx) s = .next (s.answered (0x00#8 :: be32 v)) := by
  rw [exec_statRd, execStatRd, h]
  rfl

theorem exec_statRd_of_none {idx : Byte} {s : State} (h : s.statValue idx = none) :
    exec (.statRd idx) s = .next (s.answered [0x23#8]) := by
  rw [exec_statRd, execStatRd, h]
  rfl

/-- Settles O58: the file's rows one by one, `RETRY_CNT` by its two bounds, and the reserved indices. -/
theorem statRdReadsTheStatusFile : Obligations.StatRdReadsTheStatusFile := by
  refine ⟨fun _ => rfl, fun _ => parseU8_of_length_ne _, fun s => ⟨fun idx v row => exec_statRd_of_some ?_,
    ⟨s.maxPendingRetry, exec_statRd_of_some rfl, fun _ => retryCnt_le_maxPendingRetry, maxPendingRetry_attained s⟩,
    fun _ reserved => exec_statRd_of_none (statValue_of_reserved s reserved)⟩⟩
  rw [← seqBits_eq, ← rbTag_eq] at row
  iterate 15
    rcases row with _ | ⟨_, row⟩
    · rfl
  nomatch row

end Sys2Proof.System

/-! SUPPORT. RESET (spec/70_reset_and_hazards.md R240). The reset values do not depend on the instance, and none of them
stands in what RESET takes over from the state before: the parameters, the later batches, the outputs emitted. -/

namespace Sys2Proof.Reset

open Sys2Proof.Machine

/-- R30's table, row by row, for every instance: the arrays are filled, every other element is a constant. -/
theorem atReset_resetOf (p : Params) : (State.resetOf p).AtReset :=
  have pending_clear : ∀ i < 255, Bank.get (State.resetOf p).pending i = false := Bank.get_fill false
  have retryCnt_zero : ∀ i < 255, Bank.get (State.resetOf p).retryCnt i = 0#8 := Bank.get_fill 0#8
  have rbValid_clear : ∀ i < 255, Bank.get (State.resetOf p).rbValid i = false := Bank.get_fill false
  ⟨rfl, rfl, rfl, rfl, rfl, rfl, pending_clear, retryCnt_zero, rfl, rfl, rfl, rbValid_clear, rfl, rfl, rfl⟩

/-- What is presented and what was emitted are the environment's (spec/10_state.md R29): they have no reset value. -/
theorem atReset_with_environment {t : State} (h : t.AtReset) (presented : List (List Event)) (emitted : List Output) :
    ({ t with presented := presented, emitted := emitted } : State).AtReset := h

theorem exec_reset (s : State) :
    exec .reset s =
      .next { State.resetOf s.params with presented := discardBatch s.presented, emitted := s.emitted } := rfl

/-- Settles O57: the state after RESET is the instance's reset state with the environment's two elements put back. -/
theorem resetLeavesTheResetState : Obligations.ResetLeavesTheResetState :=
  ⟨atReset_resetOf Params.p16, rfl, fun s =>
    have values := atReset_with_environment (atReset_resetOf s.params) (discardBatch s.presented) s.emitted
    ⟨_, exec_reset s, values, rfl, rfl⟩⟩

end Sys2Proof.Reset

/-! SUPPORT. Byte order and the encoding of transactions (spec/30_encoding.md R69 to R74). Each format accepts exactly
the operand bytes it lays out for one list of operands; the opcode map puts the formats side by side. -/

namespace Sys2Proof.Encoding

open Sys2Proof.Machine

/-! ## Byte order (spec/20_memory.md R40) -/

theorem toNat_unBe16 (a b : Byte) : (unBe16 a b).toNat = a.toNat * 256 + b.toNat := by
  rw [unBe16, System.toNat_append_eq_add]
  omega

theorem toNat_unBe32 (a b c d : Byte) :
    (unBe32 a b c d).toNat = ((a.toNat * 256 + b.toNat) * 256 + c.toNat) * 256 + d.toNat := by
  rw [unBe32, System.toNat_append_eq_add, System.toNat_append_eq_add, System.toNat_append_eq_add]
  omega

/-- The byte of a value whose lowest bit has the weight `2 ^ k`. -/
theorem extractLsb'_eq_ofNat {w : Nat} (v : BitVec w) (k : Nat) :
    v.extractLsb' k 8 = BitVec.ofNat 8 (v.toNat / 2 ^ k % 256) := by
  apply BitVec.eq_of_toNat_eq
  simp [BitVec.extractLsb'_toNat, Nat.shiftRight_eq_div_pow]

theorem be16_eq (v : Half) : be16 v = [BitVec.ofNat 8 (v.toNat / 256), BitVec.ofNat 8 (v.toNat % 256)] := by
  have high : v.toNat / 256 % 256 = v.toNat / 256 := by omega
  simp only [be16, extractLsb'_eq_ofNat, Nat.reducePow, Nat.div_one, high]

theorem be32_eq (v : Word) :
    be32 v = [BitVec.ofNat 8 (v.toNat / 16777216), BitVec.ofNat 8 (v.toNat / 65536 % 256),
      BitVec.ofNat 8 (v.toNat / 256 % 256), BitVec.ofNat 8 (v.toNat % 256)] := by
  have high : v.toNat / 16777216 % 256 = v.toNat / 16777216 := by omega
  simp only [be32, extractLsb'_eq_ofNat, Nat.reducePow, Nat.div_one, high]

/-- Settles O8: both layouts by the weight of each byte, both assemblies by the append of fields. -/
theorem multiByteFieldsAreBigEndian : Obligations.MultiByteFieldsAreBigEndian :=
  ⟨be16_eq, be32_eq, toNat_unBe16, toNat_unBe32⟩

@[simp] theorem be16_unBe16 (a b : Byte) : be16 (unBe16 a b) = [a, b] := by
  rw [be16_eq, toNat_unBe16]
  simp only [List.cons.injEq, and_true]
  constructor <;> bv_omega

@[simp] theorem be32_unBe32 (a b c d : Byte) : be32 (unBe32 a b c d) = [a, b, c, d] := by
  rw [be32_eq, toNat_unBe32]
  simp only [List.cons.injEq, and_true]
  refine ⟨?_, ?_, ?_, ?_⟩ <;> bv_omega

@[simp] theorem unBe32_split (v : Word) :
    unBe32 (v.extractLsb' 24 8) (v.extractLsb' 16 8) (v.extractLsb' 8 8) (v.extractLsb' 0 8) = v := by
  apply BitVec.eq_of_toNat_eq
  rw [toNat_unBe32]
  simp only [extractLsb'_eq_ofNat, BitVec.toNat_ofNat, Nat.reducePow]
  omega

/-! ## The formats (R69) -/

section

variable {args : Bytes} {i : Instr}

theorem parseNone_eq_ok_iff {k : Instr} : parseNone k args = .ok i ↔ args = [] ∧ k = i := by
  cases args <;> simp [parseNone]

theorem parseU8_eq_ok_iff {k : Byte → Instr} : parseU8 k args = .ok i ↔ ∃ a, args = [a] ∧ k a = i := by
  match args with
  | [] | [_] | _ :: _ :: _ => simp [parseU8]

theorem parseData_eq_ok_iff {k : Bytes → Instr} : parseData k args = .ok i ↔ k args = i := by
  simp [parseData]

theorem parseHdrData_eq_ok_iff {k : Byte → Byte → Byte → Bytes → Instr} :
    parseHdrData k args = .ok i ↔ ∃ a b c data, args = [a, b, c] ++ data ∧ k a b c data = i := by
  match args with
  | [] | [_] | [_, _] | _ :: _ :: _ :: _ => simp [parseHdrData, eq_comm]

/-- Two bytes are the layout of one 16-bit value. -/
theorem parseU16Data_eq_ok_iff {k : Half → Bytes → Instr} :
    parseU16Data k args = .ok i ↔ ∃ v data, args = be16 v ++ data ∧ k v data = i := by
  constructor
  · intro h
    match args, h with
    | a :: b :: data, h => exact ⟨unBe16 a b, data, by simp, Except.ok.inj h⟩
  · rintro ⟨v, data, rfl, rfl⟩
    exact congrArg (fun u => Except.ok (k u data)) (unBe16_split v)

/-- Four bytes are the layout of one 32-bit value. -/
theorem parseU32_eq_ok_iff {k : Word → Instr} : parseU32 k args = .ok i ↔ ∃ v, args = be32 v ∧ k v = i := by
  constructor
  · intro h
    match args, h with
    | [a, b, c, d], h => exact ⟨unBe32 a b c d, by simp, Except.ok.inj h⟩
  · rintro ⟨v, rfl, rfl⟩
    exact congrArg (fun u => Except.ok (k u)) (unBe32_split v)

end

/-! ## Transactions (R69 to R73) -/

/-- The rows of the opcode map (R72), numbered in its order and grouped by format. -/
theorem encode_of_decodeCmd {c : Bytes} {i : Instr} (h : decodeCmd c = .ok i) : encode i = .cmd c := by
  unfold decodeCmd at h
  split at h
  · nomatch h
  · split at h
    case h_15 => nomatch h
    case h_1 | h_5 | h_8 | h_10 | h_13 =>
      obtain rfl := parseData_eq_ok_iff.mp h
      rfl
    case h_2 | h_6 =>
      obtain ⟨v, data, rfl, rfl⟩ := parseU16Data_eq_ok_iff.mp h
      rfl
    case h_3 | h_4 | h_14 =>
      obtain ⟨a, rfl, rfl⟩ := parseU8_eq_ok_iff.mp h
      rfl
    case h_7 | h_11 =>
      obtain ⟨a, b, c, data, rfl, rfl⟩ := parseHdrData_eq_ok_iff.mp h
      rfl
    case h_9 =>
      obtain ⟨v, rfl, rfl⟩ := parseU32_eq_ok_iff.mp h
      rfl
    case h_12 =>
      obtain ⟨rfl, rfl⟩ := parseNone_eq_ok_iff.mp h
      rfl

/-- The encoding of an instruction has that instruction as its meaning; only the assembled fields need their round
trip. -/
theorem decode_encode (i : Instr) : decode (encode i) = .ok i := by
  cases i with
  | crcVerify claimed data => exact parseU16Data_eq_ok_iff.mpr ⟨claimed, data, rfl, rfl⟩
  | fecDec len img => exact parseU16Data_eq_ok_iff.mpr ⟨len, img, rfl, rfl⟩
  | frgShould mlen => exact parseU32_eq_ok_iff.mpr ⟨mlen, rfl, rfl⟩
  | _ => rfl

theorem encode_of_decode {e : Event} {i : Instr} (h : decode e = .ok i) : encode i = e := by
  cases e with
  | cmd c => exact encode_of_decodeCmd h
  | rx | tick | reset =>
    obtain rfl := Except.ok.inj h
    rfl

/-- Settles O6: the formats' inversions one way, the fields' round trips the other. -/
theorem decodeAndEncodeAgree : Obligations.DecodeAndEncodeAgree := fun _ i =>
  ⟨encode_of_decode, fun h => h ▸ decode_encode i⟩

/-- Settles O7: each transaction is the encoding of its instruction; 0x81 is no opcode (R73). -/
theorem writtenWordsDecode : Obligations.WrittenWordsDecode :=
  ⟨decode_encode (.crcVerify 0xAEE7#16 [0x31#8]), decode_encode (.hamDec 0x23#8),
    decode_encode (.fecDec 1#16 [0x99#8, 0xA4#8]), decode_encode (.frgShould 17#32),
    decode_encode (.frgAccept 0#8 2#8 3#8 [0x20#8]), decode_encode (.arqSend [0x41#8]),
    System.decodeCmd_of_unknown (op := 0x81#8) [] (by decide)⟩

end Sys2Proof.Encoding

/-! SUPPORT. What an operation can do, said once. An operation moves the send side, or the receive side, or neither,
or is RESET (spec/44_arq.md R182): `exec_goesOn` says so for every instruction, and the invariants of the whole
machine are read off it, one case for each move. -/

namespace Sys2Proof.Effects

open Sys2Proof.Machine

/-! ## The moves -/

/-- What touches neither side: answers, drops, ignored and duplicate frames, a TICK outside a send. -/
inductive Passive (s : State) : Instr → State → Prop
  | answered {i : Instr} (command : isCommand i = true) (r : Bytes) : Passive s i (s.answered r)
  | undecoded {f : Bytes} {e : FrameError} (error : frameDecode s.params f = .error e) {t : State}
      (drop : t = s.dropMalformed ∨ t = s.dropIntegrity) : Passive s (.rx f) t
  | ignored {f : Bytes} {fr : Frame} (ok : frameDecode s.params f = .ok fr) (marker : fr.payload = ackMarker) :
      Passive s (.rx f) s
  | badMeta {f : Bytes} {fr : Frame} (ok : frameDecode s.params f = .ok fr) (data : fr.payload ≠ ackMarker) :
      Passive s (.rx f) s.dropBadmeta
  | duplicate {f : Bytes} {fr : Frame} (ok : frameDecode s.params f = .ok fr) (good : GoodData fr) :
      Passive s (.rx f) (s.emit (.tx (s.ackFrame fr)))
  | waiting (free : s.arqState.inFlight = false) : Passive s .tick s

/-- What moves the send side: a send starts, an acknowledgment counts, the timer runs or expires. -/
inductive SendMove (s : State) : Instr → State → Prop
  | started {msg : Bytes} (free : s.arqState.inFlight = false) (fits : ¬ TooLong s.params msg) :
      SendMove s (.arqSend msg) ((s.startSend msg).respond [])
  | partlyAcked {f : Bytes} {fr : Frame} (ok : frameDecode s.params f = .ok fr) (counts : Counts s fr)
      (others : OthersPending s fr.fid) :
      SendMove s (.rx f) { s.clearPending fr.fid with arqState := .partiallyAcked }
  | succeeded {f : Bytes} {fr : Frame} (ok : frameDecode s.params f = .ok fr) (counts : Counts s fr)
      (last : ¬ OthersPending s fr.fid) :
      SendMove s (.rx f) { s.sendSucceeds with pending := Bank.fill false }
  | countedDown (busy : s.arqState.inFlight = true) (running : 1#32 < s.ackTimer) :
      SendMove s .tick { s with ackTimer := s.ackTimer - 1#32 }
  | failed (busy : s.arqState.inFlight = true) (expired : s.ackTimer ≤ 1#32) (reached : ReachesCeiling s) :
      SendMove s .tick s.bumpRetries.sendFails
  | resent (busy : s.arqState.inFlight = true) (expired : s.ackTimer ≤ 1#32) (below : ¬ ReachesCeiling s) :
      SendMove s .tick (s.bumpRetries.emitAll (s.txBurst fun i => Bank.get s.pending i)).loadTimer

/-- What moves the receive side: a fragment goes through `ACCEPT`, or the buffer is destroyed by command. -/
inductive RecvMove (s : State) : Instr → State → Prop
  | accepted {key fid total : Byte} {payload : Bytes} (size : payload.length ≤ maxPayload s.params)
      (good : fid < total) (r : Bytes) :
      RecvMove s (.frgAccept key fid total payload) ((s.accept key fid total payload).1.respond r)
  | dropped : RecvMove s .frgDrop (s.destroyRb.respond [])
  | kept {f : Bytes} {fr : Frame} (ok : frameDecode s.params f = .ok fr) (good : GoodData fr) :
      RecvMove s (.rx f) ((s.emit (.tx (s.ackFrame fr))).accept fr.seq fr.fid fr.total fr.payload).1
  | delivered {f : Bytes} {fr : Frame} (ok : frameDecode s.params f = .ok fr) (good : GoodData fr) (msg : Bytes) :
      RecvMove s (.rx f)
        (((s.emit (.tx (s.ackFrame fr))).accept fr.seq fr.fid fr.total fr.payload).1.deliver msg)

/-- What an operation can do. -/
inductive Effect (s : State) (i : Instr) (t : State) : Prop
  | passive (h : Passive s i t)
  | send (h : SendMove s i t)
  | recv (h : RecvMove s i t)
  | reset (h : i = .reset)
      (fresh : t = { State.resetOf s.params with presented := discardBatch s.presented, emitted := s.emitted })

/-! ## Every operation has its effect -/

/-- An operation goes on, with one of the effects. -/
abbrev GoesOn (s : State) (i : Instr) : Prop := ∃ t, exec i s = .next t ∧ Effect s i t

variable {s t : State} {i : Instr}

theorem GoesOn.of_raise {e : Status} (run : exec i s = .next (s.raise e)) (command : isCommand i = true) :
    GoesOn s i := ⟨_, run, .passive (.answered command [e.code])⟩

theorem GoesOn.of_respond {r : Bytes} (run : exec i s = .next (s.respond r)) (command : isCommand i = true) :
    GoesOn s i := ⟨_, run, .passive (.answered command (0x00#8 :: r))⟩

/-- A command with one range check answers either way. -/
theorem GoesOn.of_check {c : Prop} [Decidable c] {e : Status} {r : Bytes}
    (run : exec i s = if c then .next (s.raise e) else .next (s.respond r)) (command : isCommand i = true) :
    GoesOn s i := by
  split at run
  · exact .of_raise run command
  · exact .of_respond run command

theorem goesOn_frmDec (f : Bytes) (s : State) : GoesOn s (.frmDec f) := by
  have arm : exec (.frmDec f) s = execFrmDec f s := rfl
  rw [execFrmDec] at arm
  split at arm
  · exact .of_respond arm rfl
  · exact .of_raise arm rfl

theorem goesOn_statRd (idx : Byte) (s : State) : GoesOn s (.statRd idx) := by
  have arm := System.exec_statRd idx s
  rw [execStatRd] at arm
  split at arm
  · exact .of_respond arm rfl
  · exact .of_raise arm rfl

theorem goesOn_frgAccept (key fid total : Byte) (payload : Bytes) (s : State) :
    GoesOn s (.frgAccept key fid total payload) := by
  by_cases large : maxPayload s.params < payload.length
  · exact ⟨_, Frag.exec_frgAccept_of_lt large, .passive (.answered rfl _)⟩
  have size := Nat.not_lt.mp large
  by_cases bad : total = 0#8 ∨ total ≤ fid
  · exact ⟨_, Frag.exec_frgAccept_of_badMeta size bad, .passive (.answered rfl _)⟩
  have good : fid < total := BitVec.not_le.mp fun le => bad (.inr le)
  exact ⟨_, Frag.exec_frgAccept_of_good size good, .recv (.accepted size good _)⟩

theorem goesOn_arqSend (msg : Bytes) (s : State) : GoesOn s (.arqSend msg) := by
  cases flying : s.arqState.inFlight with
  | true => exact .of_raise (Arq.exec_arqSend_of_inFlight flying) rfl
  | false =>
    by_cases long : TooLong s.params msg
    · exact .of_raise (Arq.exec_arqSend_of_tooLong flying long) rfl
    · exact ⟨_, Arq.exec_arqSend_of_fits flying long, .send (.started flying long)⟩

theorem goesOn_tick (s : State) : GoesOn s .tick := by
  cases flying : s.arqState.inFlight with
  | false => exact ⟨_, Arq.exec_tick_of_not_inFlight flying, .passive (.waiting flying)⟩
  | true =>
    by_cases running : 1#32 < s.ackTimer
    · exact ⟨_, Arq.exec_tick_of_lt flying running, .send (.countedDown flying running)⟩
    have expired := BitVec.not_lt.mp running
    refine ⟨_, Arq.exec_tick_of_le flying expired, .send ?_⟩
    by_cases reached : ReachesCeiling s
    · rw [Arq.timeout_of_reachesCeiling reached]
      exact .failed flying expired reached
    · rw [Arq.timeout_of_not_reachesCeiling reached]
      exact .resent flying expired reached

/-- A decoded frame, by the tests of R173 in their order. -/
theorem effect_receiveFrame {f : Bytes} {fr : Frame} (ok : frameDecode s.params f = .ok fr) :
    Effect s (.rx f) (s.receiveFrame fr) := by
  by_cases counts : Counts s fr
  · rw [Arq.receiveFrame_of_counts counts]
    have hfid := Arq.fid_lt_of_counts counts
    by_cases others : OthersPending s fr.fid
    · rw [Arq.applyAck_of_othersPending hfid others]
      exact .send (.partlyAcked ok counts others)
    · rw [Arq.applyAck_of_not_othersPending hfid others]
      exact .send (.succeeded ok counts others)
  by_cases marker : fr.payload = ackMarker
  · rw [Arq.receiveFrame_of_not_counts marker counts]
    exact .passive (.ignored ok marker)
  cases bad : badMeta fr.fid fr.total with
  | true =>
    rw [Arq.receiveFrame_of_badMeta marker bad]
    exact .passive (.badMeta ok marker)
  | false =>
    have good : GoodData fr := (Arq.goodData_iff fr).mpr ⟨marker, bad⟩
    by_cases expected : fr.seq = s.expectedRecvSeq.setWidth 8
    · rw [Arq.receiveFrame_of_new good expected]
      rcases Arq.newMessage_cases (s.emit (.tx (s.ackFrame fr))) fr with ⟨msg, delivered⟩ | kept
      · rw [delivered]
        exact .recv (.delivered ok good msg)
      · rw [kept]
        exact .recv (.kept ok good)
    · rw [Arq.receiveFrame_of_duplicate good expected]
      exact .passive (.duplicate ok good)

theorem goesOn_rx (f : Bytes) (s : State) : GoesOn s (.rx f) := by
  cases decoded : frameDecode s.params f with
  | ok fr => exact ⟨_, Arq.exec_rx_of_ok decoded, effect_receiveFrame decoded⟩
  | error e =>
    rcases Arq.exec_rx_of_error decoded with drop | drop
    · exact ⟨_, drop, .passive (.undecoded decoded (.inl rfl))⟩
    · exact ⟨_, drop, .passive (.undecoded decoded (.inr rfl))⟩

/-- No operation faults or is refused, and each has one of the effects (spec/60_exceptions.md R221). -/
theorem exec_goesOn (i : Instr) (s : State) : GoesOn s i := by
  cases i with
  | crcCompute | crcVerify | hamEnc | hamDec | fecEnc | fecDec | frmEnc | frgSplit => exact .of_check rfl rfl
  | frgShould => exact .of_respond rfl rfl
  | frmDec f => exact goesOn_frmDec f s
  | statRd idx => exact goesOn_statRd idx s
  | frgAccept key fid total payload => exact goesOn_frgAccept key fid total payload s
  | frgDrop => exact ⟨_, rfl, .recv .dropped⟩
  | arqSend msg => exact goesOn_arqSend msg s
  | rx f => exact goesOn_rx f s
  | tick => exact goesOn_tick s
  | reset => exact ⟨_, Reset.exec_reset s, .reset rfl rfl⟩

theorem effect_of_exec (run : exec i s = .next t) : Effect s i t := by
  obtain ⟨u, run', effect⟩ := exec_goesOn i s
  obtain rfl : u = t := Host.Outcome.next.inj (run'.symm.trans run)
  exact effect

/-! ## What each move leaves alone (R182) -/

/-- `ACCEPT` works on the reassembly buffer. -/
theorem accept_sameSendSide (s : State) (key fid total : Byte) (payload : Bytes) :
    SameSendSide s (s.accept key fid total payload).1 := by
  rw [State.accept_frame]
  exact ⟨rfl, rfl, rfl, rfl, rfl, rfl, rfl, rfl⟩

theorem accept_sameCounters (s : State) (key fid total : Byte) (payload : Bytes) :
    SameCounters s (s.accept key fid total payload).1 := by
  rw [State.accept_frame]
  exact ⟨rfl, rfl, rfl⟩

theorem accept_sameSurroundings (s : State) (key fid total : Byte) (payload : Bytes) :
    SameSurroundings s (s.accept key fid total payload).1 := by
  rw [State.accept_frame]
  exact ⟨rfl, rfl⟩

theorem Passive.sameSendSide (h : Passive s i t) : SameSendSide s t := by
  cases h with
  | undecoded _ drop => rcases drop with rfl | rfl <;> exact ⟨rfl, rfl, rfl, rfl, rfl, rfl, rfl, rfl⟩
  | _ => exact ⟨rfl, rfl, rfl, rfl, rfl, rfl, rfl, rfl⟩

theorem Passive.sameRecvSide (h : Passive s i t) : SameRecvSide s t := by
  cases h with
  | undecoded _ drop => rcases drop with rfl | rfl <;> exact ⟨rfl, rfl, rfl, rfl, rfl, rfl, rfl⟩
  | _ => exact ⟨rfl, rfl, rfl, rfl, rfl, rfl, rfl⟩

theorem Passive.sameSurroundings (h : Passive s i t) : SameSurroundings s t := by
  cases h with
  | undecoded _ drop => rcases drop with rfl | rfl <;> exact ⟨rfl, rfl⟩
  | _ => exact ⟨rfl, rfl⟩

theorem RecvMove.sameSendSide (h : RecvMove s i t) : SameSendSide s t := by
  cases h with
  | accepted => exact accept_sameSendSide _ _ _ _ _
  | dropped => exact ⟨rfl, rfl, rfl, rfl, rfl, rfl, rfl, rfl⟩
  | kept | delivered => exact accept_sameSendSide (s.emit _) _ _ _ _

theorem RecvMove.sameSurroundings (h : RecvMove s i t) : SameSurroundings s t := by
  cases h with
  | accepted => exact accept_sameSurroundings _ _ _ _ _
  | dropped => exact ⟨rfl, rfl⟩
  | kept | delivered => exact accept_sameSurroundings (s.emit _) _ _ _ _

theorem SendMove.sameRecvSide (h : SendMove s i t) : SameRecvSide s t := by
  cases h <;> exact ⟨rfl, rfl, rfl, rfl, rfl, rfl, rfl⟩

theorem SendMove.sameCounters (h : SendMove s i t) : SameCounters s t := by
  cases h <;> exact ⟨rfl, rfl, rfl⟩

theorem SendMove.sameSurroundings (h : SendMove s i t) : SameSurroundings s t := by
  cases h <;> exact ⟨rfl, rfl⟩

/-- No operation changes a parameter, RESET included (spec/00_scope.md R2). -/
theorem Effect.params_eq (h : Effect s i t) : t.params = s.params := by
  cases h with
  | passive h => exact h.sameSurroundings.1
  | send h => exact h.sameSurroundings.1
  | recv h => exact h.sameSurroundings.1
  | reset _ fresh => rw [fresh]; rfl

/-! ## Independence of the directions (R182) -/

theorem sameSendSide_of_data {f : Bytes} {fr : Frame} (ok : frameDecode s.params f = .ok fr)
    (data : fr.payload ≠ ackMarker) (h : Effect s (.rx f) t) : SameSendSide s t := by
  have not_counted : ∀ {gr}, frameDecode s.params f = .ok gr → ¬ Counts s gr := fun ok' counts => by
    obtain rfl := Except.ok.inj (ok.symm.trans ok')
    exact data counts.1
  cases h with
  | reset h => nomatch h
  | passive h => exact h.sameSendSide
  | recv h => exact h.sameSendSide
  | send h =>
    cases h with
    | partlyAcked ok' counts | succeeded ok' counts => exact absurd counts (not_counted ok')

theorem sameRecvSide_of_marker {f : Bytes} {fr : Frame} (ok : frameDecode s.params f = .ok fr)
    (marker : fr.payload = ackMarker) (h : Effect s (.rx f) t) : SameRecvSide s t ∧ SameCounters s t := by
  have payload_eq : ∀ {gr}, frameDecode s.params f = .ok gr → gr.payload = ackMarker := fun ok' => by
    rwa [← Except.ok.inj (ok.symm.trans ok')]
  cases h with
  | reset h => nomatch h
  | send h => exact ⟨h.sameRecvSide, h.sameCounters⟩
  | passive h =>
    refine ⟨h.sameRecvSide, ?_⟩
    cases h with
    | answered command => nomatch command
    | undecoded error => nomatch ok.symm.trans error
    | badMeta ok' data => exact absurd (payload_eq ok') data
    | ignored | duplicate => exact ⟨rfl, rfl, rfl⟩
  | recv h =>
    cases h with
    | kept ok' good | delivered ok' good => exact absurd (payload_eq ok') good.1

theorem sameRecvSide_of_arqSend {msg : Bytes} (h : Effect s (.arqSend msg) t) :
    SameRecvSide s t ∧ SameCounters s t := by
  cases h with
  | reset h => nomatch h
  | send h => exact ⟨h.sameRecvSide, h.sameCounters⟩
  | passive h => cases h with | answered => exact ⟨⟨rfl, rfl, rfl, rfl, rfl, rfl, rfl⟩, rfl, rfl, rfl⟩
  | recv h => nomatch h

theorem sameRecvSide_of_tick (h : Effect s .tick t) : SameRecvSide s t ∧ SameCounters s t := by
  cases h with
  | reset h => nomatch h
  | send h => exact ⟨h.sameRecvSide, h.sameCounters⟩
  | passive h => cases h with | answered | waiting => exact ⟨⟨rfl, rfl, rfl, rfl, rfl, rfl, rfl⟩, rfl, rfl, rfl⟩
  | recv h => nomatch h

theorem sameSendSide_of_frgAccept {key fid total : Byte} {payload : Bytes}
    (h : Effect s (.frgAccept key fid total payload) t) : SameSendSide s t ∧ SameCounters s t := by
  cases h with
  | reset h => nomatch h
  | passive h => exact ⟨h.sameSendSide, by cases h with | answered => exact ⟨rfl, rfl, rfl⟩⟩
  | recv h => exact ⟨h.sameSendSide, by cases h with | accepted => exact accept_sameCounters _ _ _ _ _⟩
  | send h => nomatch h

/-- Settles O46, clause by clause from the moves each operation can make. -/
theorem directionsAreIndependent : Obligations.DirectionsAreIndependent :=
  ⟨fun _ _ _ _ ok run => ⟨fun data => sameSendSide_of_data ok data (effect_of_exec run),
      fun marker => sameRecvSide_of_marker ok marker (effect_of_exec run)⟩,
    fun _ _ _ run => sameRecvSide_of_arqSend (effect_of_exec run),
    fun _ _ run => sameRecvSide_of_tick (effect_of_exec run),
    fun _ _ _ _ _ _ run => sameSendSide_of_frgAccept (effect_of_exec run)⟩

/-! ## Retransmissions (R165) -/

/-- `TXFRAG` is read off the parameters and the four elements R165 names. -/
theorem txFrame_congr (params : t.params = s.params) (seq : t.sendSeq = s.sendSeq) (msg : t.txMsg = s.txMsg)
    (len : t.txLen = s.txLen) (total : t.txTotal = s.txTotal) (k : Nat) : t.txFrame k = s.txFrame k := by
  simp only [State.txFrame, State.txPayload, params, seq, msg, len, total]

/-- Settles O35: the moves that write these elements start a send or end it. -/
theorem framesStayTheSameWhileInFlight : Obligations.FramesStayTheSameWhileInFlight := by
  intro i s t run before after
  have effect := effect_of_exec run
  have same : t.sendSeq = s.sendSeq ∧ t.txMsg = s.txMsg ∧ t.txLen = s.txLen ∧ t.txTotal = s.txTotal := by
    have of_same (h : SameSendSide s t) :
        t.sendSeq = s.sendSeq ∧ t.txMsg = s.txMsg ∧ t.txLen = s.txLen ∧ t.txTotal = s.txTotal := by
      obtain ⟨seq, -, total, len, -, -, -, msg⟩ := h
      exact ⟨seq, msg, len, total⟩
    cases effect with
    | passive h => exact of_same h.sameSendSide
    | recv h => exact of_same h.sameSendSide
    | reset _ fresh => subst fresh; nomatch after
    | send h =>
      cases h with
      | started free => exact absurd before (Bool.eq_false_iff.mp free)
      | succeeded | failed => nomatch after
      | partlyAcked | countedDown | resent => exact ⟨rfl, rfl, rfl, rfl⟩
  obtain ⟨seq, msg, len, total⟩ := same
  exact ⟨seq, msg, len, total, txFrame_congr effect.params_eq seq msg len total⟩

/-! ## The sequence bits (spec/10_state.md R12) -/

/-- Settles O47: among the moves only the last acknowledgment, the delivery and RESET write a sequence bit. -/
theorem sequenceBitsToggleOnlyOnCompletion : Obligations.SequenceBitsToggleOnlyOnCompletion := by
  refine ⟨fun i s t run moved => ?_, fun i s t run moved => ?_, fun s t run => ?_⟩
  · cases effect_of_exec run with
    | passive h => exact absurd h.sameSendSide.1 moved
    | recv h => exact absurd h.sameSendSide.1 moved
    | reset h => exact .inl h
    | send h =>
      cases h with
      | succeeded _ counts =>
        obtain ⟨-, busy, -⟩ := counts
        exact .inr ⟨⟨_, rfl⟩, busy, rfl, rfl, rfl⟩
      | started | partlyAcked | countedDown | failed | resent => exact absurd rfl moved
  · cases effect_of_exec run with
    | passive h => exact absurd h.sameRecvSide.1 moved
    | send h => exact absurd h.sameRecvSide.1 moved
    | reset h => exact .inl h
    | recv h =>
      cases h with
      | @delivered f fr _ _ msg => exact .inr ⟨⟨f, rfl⟩, by simp, s.ackFrame fr, msg, by simp⟩
      | accepted | kept => exact absurd (by simp) moved
      | dropped => exact absurd rfl moved
  · cases run
    exact ⟨rfl, rfl⟩

/-! ## Steps (spec/20_memory.md R44) -/

/-- A step waits, or answers a transaction the dispatcher refuses, or has the effect of the operation it takes. -/
theorem step_cases (s : State) : ∃ t, step s = .next t ∧
    (t = s ∨ (∃ rest r, t = ({ s with presented := rest } : State).answered r) ∨
      ∃ rest i, Effect { s with presented := rest } i t) := by
  cases next : nextEvent s.presented with
  | none => exact ⟨s, by rw [step, next], .inl rfl⟩
  | some taken =>
    obtain ⟨e, rest⟩ := taken
    cases meaning : decode e with
    | error r => exact ⟨_, System.step_of_decode_error next meaning, .inr (.inl ⟨rest, _, rfl⟩)⟩
    | ok i =>
      obtain ⟨t, run, effect⟩ := exec_goesOn i { s with presented := rest }
      refine ⟨t, ?_, .inr (.inr ⟨rest, i, effect⟩)⟩
      rw [step, next]
      simp only [meaning, run]

/-- What does not look at the schedule and is kept by every effect is kept by every step. -/
theorem step_keeps {P : State → Prop} (schedule : ∀ s rest, P s → P { s with presented := rest })
    (effect : ∀ s i t, P s → Effect s i t → P t) (h : P s) (run : step s = .next t) : P t := by
  obtain ⟨u, run', cases⟩ := step_cases s
  obtain rfl : u = t := Host.Outcome.next.inj (run'.symm.trans run)
  rcases cases with rfl | ⟨rest, r, rfl⟩ | ⟨rest, i, moved⟩
  · exact h
  · exact effect _ .frgDrop _ (schedule s rest h) (.passive (.answered rfl r))
  · exact effect _ i _ (schedule s rest h) moved

/-- Settles O51: every case of a step has a next state. -/
theorem everyStepGoesOn : Obligations.EveryStepGoesOn := fun s =>
  have ⟨t, run, _⟩ := step_cases s
  ⟨t, run⟩

/-- Settles O52: having the parameters of the first state is kept by every step. -/
theorem parametersNeverChange : Obligations.ParametersNeverChange := fun s _ run =>
  step_keeps (P := fun u => u.params = s.params) (fun _ _ h => h) (fun _ _ _ h moved => moved.params_eq.trans h) rfl run

/-- Settles O1, by the arm of `step` for a decoded event. -/
theorem stepRunsTheDecodedEvent : Obligations.StepRunsTheDecodedEvent := by
  intro s e rest i next meaning
  rw [step, next]
  simp only [meaning]

end Sys2Proof.Effects

/-! SUPPORT. The invariant of the whole state (spec/10_state.md R13, R15, R20, R21, R24). Each of its parts looks at
one side of the block: a move of the other side keeps it by the frame of that move, and a move of its own side is one
lemma. -/

namespace Sys2Proof.Invariant

open Sys2Proof.Machine Sys2Proof.Effects

variable {s t : State} {i : Instr}

/-! ## What `ACCEPT` leaves in the buffer (spec/43_fragmentation.md R147 to R149) -/

/-- The fragment is stored, and the buffer destroyed when that completes the message. -/
theorem accept_eq_stored (s : State) (key fid total : Byte) (payload : Bytes) :
    (s.accept key fid total payload).1 = (Frag.stored s key fid total payload).destroyRb ∨
    ((Frag.stored s key fid total payload).rbComplete = false ∧
      (s.accept key fid total payload).1 = Frag.stored s key fid total payload) := by
  rcases s.accept_cases key fid total payload with ⟨-, answer⟩ | ⟨incomplete, answer⟩
  · exact .inl (by rw [answer]; rfl)
  · exact .inr ⟨incomplete, by rw [answer]; rfl⟩

/-- A fragment's payload is no longer than the largest one (spec/42_frame.md R128): FECLEN is strictly increasing. -/
theorem payload_length_le {p : Params} {f : Bytes} {fr : Frame} (ok : frameDecode p f = .ok fr) :
    fr.payload.length ≤ maxPayload p := by
  obtain ⟨-, largest, -, size, rfl⟩ := (frameDecode_ok_iff p f fr).mp ok
  rw [fecDecode_length]
  rw [maxFrame] at largest
  unfold fecLen ceilDiv at *
  omega

/-! ## Canonical buffers (log 6) -/

theorem buffersWf_congr (msg : t.txMsg = s.txMsg) (data : t.rbData = s.rbData) (h : s.BuffersWf) : t.BuffersWf := by
  rwa [State.BuffersWf, msg, data]

section

variable {key fid total : Byte} {payload : Bytes}

theorem stored_buffersWf (good : fid < total) (h : s.BuffersWf) :
    (Frag.stored s key fid total payload).BuffersWf := by
  have hfid : fid.toNat < 255 := Frag.toNat_lt_of_lt good
  obtain ⟨msg_wf, slots⟩ := h
  refine ⟨by rwa [Frag.stored_frame], fun i hi => ?_⟩
  rw [Frag.get_rbData_stored s key payload hfid]
  split
  · exact memWrite_wf _ _ _ (slots _ hfid)
  · exact slots i hi

theorem accept_buffersWf (good : fid < total) (h : s.BuffersWf) :
    (s.accept key fid total payload).1.BuffersWf := by
  rcases accept_eq_stored s key fid total payload with e | ⟨-, e⟩ <;> rw [e] <;> exact stored_buffersWf good h

end

theorem resetOf_buffersWf (p : Params) : (State.resetOf p).BuffersWf := by
  have slots : ∀ i < 255, Bank.get (State.resetOf p).rbData i = [] := Bank.get_fill []
  exact ⟨Memory.wf_nil, fun i hi => by rw [slots i hi]; exact Memory.wf_nil⟩

theorem effect_keeps_buffersWf (h : s.BuffersWf) (moved : Effect s i t) : t.BuffersWf := by
  cases moved with
  | reset _ fresh => rw [fresh]; exact resetOf_buffersWf s.params
  | passive m =>
    obtain ⟨-, -, -, -, -, -, -, msg⟩ := m.sameSendSide
    obtain ⟨-, -, -, -, -, -, data⟩ := m.sameRecvSide
    exact buffersWf_congr msg data h
  | send m =>
    cases m with
    | started => exact ⟨memWrite_wf _ _ _ h.1, h.2⟩
    | partlyAcked | succeeded | countedDown | failed | resent => exact h
  | recv m =>
    cases m with
    | dropped => exact h
    | accepted _ good => exact accept_buffersWf good h
    | kept _ good | delivered _ good => exact accept_buffersWf (s := s.emit _) good.2.2 h

/-- Settles O54: the schedule holds no buffer, and every effect keeps them canonical. -/
theorem buffersStayCanonical : Obligations.BuffersStayCanonical := fun _ _ h run =>
  step_keeps (fun _ _ h => h) (fun _ _ _ => effect_keeps_buffersWf) h run

/-! ## The reassembly buffer (R24) -/

theorem rbInv_congr (params : t.params = s.params) (same : SameRecvSide s t) (h : s.RbInv) : t.RbInv := by
  obtain ⟨-, active, -, total, valid, len, -⟩ := same
  rwa [State.RbInv, params, active, total, valid, len]

theorem rbInv_of_inactive (inactive : s.rbActive = false) (clear : ∀ i < 255, Bank.get s.rbValid i = false) :
    s.RbInv :=
  ⟨fun _ => clear, fun active => (nomatch inactive.symm.trans active),
    fun i hi valid => (nomatch (clear i hi).symm.trans valid)⟩

/-- A slot valid after storing is the fragment's own or was valid before. -/
theorem eq_or_valid_of_validAfter {key fid total : Byte} {i : Nat} (h : validAfter s key fid total i = true) :
    i = fid.toNat ∨ (s.rbActive = true ∧ s.rbTotal = total ∧ Bank.get s.rbValid i = true) := by
  simp only [validAfter, Bool.or_eq_true, Bool.and_eq_true, decide_eq_true_eq] at h
  rcases h with own | ⟨⟨⟨active, -⟩, same⟩, valid⟩
  · exact .inl own
  · exact .inr ⟨active, same, valid⟩

theorem stored_rbInv {key fid total : Byte} {payload : Bytes} (size : payload.length ≤ maxPayload s.params)
    (good : fid < total) (h : s.RbInv) (incomplete : (Frag.stored s key fid total payload).rbComplete = false) :
    (Frag.stored s key fid total payload).RbInv := by
  have hfid : fid.toNat < 255 := Frag.toNat_lt_of_lt good
  have below : fid.toNat < total.toNat := good
  have valid_iff {i : Nat} (hi : i < 255) := Frag.get_rbValid_stored s key (total := total) payload hfid hi
  have active : (Frag.stored s key fid total payload).rbActive = true := by rw [Frag.stored_frame]
  have params : (Frag.stored s key fid total payload).params = s.params := by rw [Frag.stored_frame]
  obtain ⟨-, running, lengths⟩ := h
  refine ⟨fun inactive => (nomatch active.symm.trans inactive), fun _ => ?_, fun i hi valid => ?_⟩
  · rw [Frag.stored_rbTotal]
    refine ⟨by omega, fun i hi above => ?_, ⟨fid.toNat, hfid, ?_⟩, ?_⟩
    · rw [valid_iff hi]
      by_contra valid
      rcases eq_or_valid_of_validAfter (Bool.not_eq_false _ ▸ valid) with own | ⟨was, same, valid⟩
      · omega
      · obtain ⟨-, beyond, -⟩ := running was
        exact Bool.eq_false_iff.mp (beyond i hi (same ▸ above)) valid
    · rw [valid_iff hfid]
      simp [validAfter]
    · rw [State.rbComplete, Frag.stored_rbTotal, List.all_eq_false] at incomplete
      obtain ⟨i, hi, missing⟩ := incomplete
      exact ⟨i, List.mem_range.mp hi, Bool.eq_false_iff.mpr missing⟩
  · rw [Frag.get_rbLen_stored s key payload hfid, params]
    rw [valid_iff hi] at valid
    split
    · exact (Nat.mod_le _ _).trans size
    · next other =>
      rcases eq_or_valid_of_validAfter valid with own | ⟨-, -, valid⟩
      · exact absurd own other
      · exact lengths i hi valid

theorem accept_rbInv {key fid total : Byte} {payload : Bytes} (size : payload.length ≤ maxPayload s.params)
    (good : fid < total) (h : s.RbInv) : (s.accept key fid total payload).1.RbInv := by
  rcases accept_eq_stored s key fid total payload with e | ⟨incomplete, e⟩
  · rw [e]
    exact rbInv_of_inactive rfl (Bank.get_fill false)
  · rw [e]
    exact stored_rbInv size good h incomplete

theorem effect_keeps_rbInv (h : s.RbInv) (moved : Effect s i t) : t.RbInv := by
  have params := moved.params_eq
  cases moved with
  | reset _ fresh => rw [fresh]; exact rbInv_of_inactive rfl (Bank.get_fill false)
  | passive m => exact rbInv_congr params m.sameRecvSide h
  | send m => exact rbInv_congr params m.sameRecvSide h
  | recv m =>
    cases m with
    | dropped => exact rbInv_of_inactive rfl (Bank.get_fill false)
    | accepted size good => exact accept_rbInv size good h
    | kept ok good | delivered ok good => exact accept_rbInv (s := s.emit _) (payload_length_le ok) good.2.2 h

/-! ## The Pending-Send Set (R13, R15, R20, R21) -/

theorem sendInv_congr (params : t.params = s.params) (same : SameSendSide s t) (h : s.SendInv) : t.SendInv := by
  obtain ⟨-, state, total, len, timer, pending, retry, -⟩ := same
  simpa only [State.SendInv, State.SendReleased, State.SendRunning, params, state, total, len, timer, pending, retry]
    using h

theorem sendInv_of_released (len : s.txLen.toNat ≤ maxMsg s.params) (free : s.arqState.inFlight = false)
    (released : s.SendReleased) : s.SendInv :=
  ⟨len, fun _ => released, fun busy => (nomatch free.symm.trans busy)⟩

theorem sendInv_of_running (len : s.txLen.toNat ≤ maxMsg s.params) (busy : s.arqState.inFlight = true)
    (running : s.SendRunning) : s.SendInv :=
  ⟨len, fun free => (nomatch free.symm.trans busy), fun _ => running⟩

/-- A message ARQ.SEND takes is no longer than the longest one (spec/00_scope.md R3). -/
theorem length_le_maxMsg {p : Params} {msg : Bytes} (valid : p.Valid) (fits : ¬ TooLong p msg) :
    msg.length ≤ maxMsg p := by
  rw [TooLong, Arq.lt_ceilDiv_iff (Arq.fragmentSize_pos valid)] at fits
  rw [maxMsg, maxFrags]
  omega

theorem startSend_running {msg : Bytes} (valid : s.params.Valid) (fits : ¬ TooLong s.params msg) :
    ((s.startSend msg).respond []).SendRunning := by
  obtain ⟨pos, few⟩ := Arq.totalOf_bounds valid fits
  rw [← Arq.sendTotal_eq_totalOf] at pos few
  have total : ((s.startSend msg).respond []).txTotal.toNat = sendTotal s.params msg :=
    Nat.mod_eq_of_lt (by omega)
  have len : ((s.startSend msg).respond []).txLen.toNat = msg.length :=
    Nat.mod_eq_of_lt (Arq.length_lt_of_not_tooLong valid fits)
  have pending : ∀ i < 255, Bank.get ((s.startSend msg).respond []).pending i = decide (i < sendTotal s.params msg) :=
    Bank.get_tabulate _
  have retry : ∀ i < 255, Bank.get ((s.startSend msg).respond []).retryCnt i = 0#8 := Bank.get_fill 0#8
  have timer : ((s.startSend msg).respond []).ackTimer = s.params.ackTimeout := rfl
  obtain ⟨-, timeout, ceiling, -⟩ := valid
  refine ⟨by rw [total, len]; rfl, fun i hi above => ?_, ⟨0, by omega, ?_⟩, ⟨fun _ i hi => ?_, fun _ => rfl⟩,
    ⟨0, ?_, fun i hi => ?_⟩, ?_, ?_⟩
  · rw [pending i hi]
    exact decide_eq_false (by omega)
  · rw [pending 0 (by omega)]
    exact decide_eq_true pos
  · rw [total] at hi
    rw [pending i (by omega)]
    exact decide_eq_true hi
  · show 0 < s.params.maxRetry.toNat
    bv_omega
  · rw [retry i hi]
    split <;> rfl
  · rw [timer]
    bv_omega
  · rw [timer]
    exact Nat.le_refl _

theorem partlyAcked_running {fr : Frame} (counts : Counts s fr) (others : OthersPending s fr.fid)
    (h : s.SendRunning) : State.SendRunning { s.clearPending fr.fid with arqState := .partiallyAcked } := by
  have hfid := Arq.fid_lt_of_counts counts
  obtain ⟨-, -, -, below, -⟩ := counts
  have pending (i : Nat) : Bank.get (s.clearPending fr.fid).pending i =
      if i = fr.fid.toNat then false else Bank.get s.pending i := Bank.get_put _ _ _ _ hfid
  have retry (i : Nat) : Bank.get (s.clearPending fr.fid).retryCnt i =
      if i = fr.fid.toNat then 0#8 else Bank.get s.retryCnt i := Bank.get_put _ _ _ _ hfid
  obtain ⟨total, beyond, -, -, ⟨n, ceiling, common⟩, timer⟩ := h
  obtain ⟨j, hj, other, still⟩ := others
  refine ⟨total, fun i hi above => ?_, ⟨j, hj, ?_⟩, ⟨fun e => (nomatch e), fun all => ?_⟩,
    ⟨n, ceiling, fun i hi => ?_⟩, timer⟩
  · rw [pending]
    split
    · rfl
    · exact beyond i hi above
  · rw [pending, if_neg other, still]
  · have gone := pending fr.fid.toNat
    rw [if_pos rfl] at gone
    exact nomatch gone.symm.trans (all fr.fid.toNat below)
  · rw [pending, retry]
    split
    · rfl
    · exact common i hi

theorem countedDown_running (running : 1#32 < s.ackTimer) (h : s.SendRunning) :
    State.SendRunning { s with ackTimer := s.ackTimer - 1#32 } := by
  obtain ⟨total, beyond, some, all, common, -, upper⟩ := h
  have down : (s.ackTimer - 1#32).toNat = s.ackTimer.toNat - 1 := by bv_omega
  refine ⟨total, beyond, some, all, common, ?_, ?_⟩
  · rw [down]
    bv_omega
  · rw [down]
    exact (Nat.sub_le _ _).trans upper

/-- The common counter after a timeout below the ceiling. -/
theorem resent_running (valid : s.params.Valid) (below : ¬ ReachesCeiling s) (outs : List Output) (h : s.SendRunning) :
    ((s.bumpRetries.emitAll outs).loadTimer).SendRunning := by
  obtain ⟨total, beyond, ⟨j, hj, pending⟩, all, ⟨n, ceiling, common⟩, -⟩ := h
  have size := s.params.maxRetry.isLt
  have bumped : ∀ i < 255, (retryAfterTimeout s i).toNat = if Bank.get s.pending i then n + 1 else 0 := by
    intro i hi
    have count := common i hi
    rw [retryAfterTimeout]
    cases on : Bank.get s.pending i with
    | false => simpa [on] using count
    | true =>
      have inside : i < s.txTotal.toNat := by
        by_contra above
        exact nomatch on.symm.trans (beyond i hi (Nat.le_of_not_lt above))
      simp only [on, if_true] at count
      simp only [inside, and_self, if_true, BitVec.toNat_add, BitVec.toNat_ofNat, count]
      omega
  have next : n + 1 < s.params.maxRetry.toNat := by
    have count := bumped j hj
    rw [pending, if_pos rfl] at count
    by_contra reached
    exact below ⟨j, hj, pending, BitVec.le_def.mpr (by omega)⟩
  obtain ⟨-, timeout, -, -⟩ := valid
  refine ⟨total, beyond, ⟨j, hj, pending⟩, all, ⟨n + 1, next, fun i hi => ?_⟩, ?_, Nat.le_refl _⟩
  · exact (congrArg BitVec.toNat (Arq.get_retryCnt_bumpRetries s hi)).trans (bumped i hi)
  · show 1 ≤ s.params.ackTimeout.toNat
    bv_omega

theorem sendMove_keeps_sendInv (valid : s.params.Valid) (h : s.SendInv) (moved : SendMove s i t) : t.SendInv := by
  obtain ⟨len, -, running⟩ := h
  have zeros : ∀ i < 255, Bank.get (Bank.fill 0#8) i = 0#8 := Bank.get_fill 0#8
  have clear : ∀ i < 255, Bank.get (Bank.fill false) i = false := Bank.get_fill false
  cases moved with
  | started free fits =>
    exact sendInv_of_running ((Nat.mod_le _ _).trans (length_le_maxMsg valid fits)) rfl (startSend_running valid fits)
  | partlyAcked _ counts others =>
    exact sendInv_of_running len rfl (partlyAcked_running counts others (running counts.2.1))
  | succeeded => exact sendInv_of_released len rfl ⟨clear, zeros, rfl⟩
  | failed => exact sendInv_of_released len rfl ⟨clear, zeros, rfl⟩
  | countedDown busy above => exact sendInv_of_running len busy (countedDown_running above (running busy))
  | resent busy _ below => exact sendInv_of_running len busy (resent_running valid below _ (running busy))

theorem resetOf_sendInv (p : Params) : (State.resetOf p).SendInv :=
  sendInv_of_released (Nat.zero_le _) rfl ⟨Bank.get_fill false, Bank.get_fill 0#8, rfl⟩

theorem effect_keeps_sendInv (valid : s.params.Valid) (h : s.SendInv) (moved : Effect s i t) : t.SendInv := by
  have params := moved.params_eq
  cases moved with
  | reset _ fresh => rw [fresh]; exact resetOf_sendInv s.params
  | passive m => exact sendInv_congr params m.sameSendSide h
  | recv m => exact sendInv_congr params m.sameSendSide h
  | send m => exact sendMove_keeps_sendInv valid h m

/-! ## The whole invariant -/

theorem effect_keeps_inv (h : s.Inv) (moved : Effect s i t) : t.Inv := by
  obtain ⟨valid, buffers, rb, send⟩ := h
  exact ⟨moved.params_eq ▸ valid, effect_keeps_buffersWf buffers moved, effect_keeps_rbInv rb moved,
    effect_keeps_sendInv valid send moved⟩

/-- Settles O55: the schedule is no part of the invariant, and every effect keeps its four parts. -/
theorem invariantIsKept : Obligations.InvariantIsKept := fun _ _ h run =>
  step_keeps (fun _ _ h => h) (fun _ _ _ => effect_keeps_inv) h run

theorem resetOf_inv {p : Params} (valid : p.Valid) : (State.resetOf p).Inv :=
  ⟨valid, resetOf_buffersWf p, rbInv_of_inactive rfl (Bank.get_fill false), resetOf_sendInv p⟩

/-- Settles O56: the reset state of a record in range, `Params.p16` among them. -/
theorem invariantHoldsAtReset : Obligations.InvariantHoldsAtReset :=
  ⟨resetOf_inv (by decide), fun _ => resetOf_inv⟩

end Sys2Proof.Invariant

/-! SUPPORT. The CRC over the bit stream (spec/20_memory.md R41, spec/40_crc.md R92). The bytewise step puts all eight
bits of a byte into the register before it shifts; after `j` shifts the bits not consumed yet stand at the register's
top. -/

namespace Sys2Proof.CrcStream

open Sys2Proof.Machine

/-- One stream bit fed in at the register's top. -/
def feedBit (poly r : Half) (b : Bool) : Half := if (r.msb ^^ b) = true then (r <<< 1) ^^^ poly else r <<< 1

/-- Of what stands in the register beside `r`, a bit step consumes the top bit and shifts the rest up. -/
theorem crcBit_xor_eq_feedBit (poly r z : Half) : crcBit poly (r ^^^ z) = feedBit poly r z.msb ^^^ z <<< 1 := by
  have fed : feedBit poly r z.msb = r <<< 1 ^^^ (if (r ^^^ z).msb then poly else 0#16) := by
    rw [feedBit, BitVec.msb_xor]
    split <;> simp
  rw [Crc.crcBit_eq_xor, fed, BitVec.shiftLeft_xor_distrib]
  ac_rfl

/-- After `j` of a byte's bits the next one stands at the top. -/
theorem msb_shiftLeft_byte (b : Byte) {j : Nat} (hj : j < 8) : (b.setWidth 16 <<< (8 + j)).msb = b.getMsbD j := by
  simp [BitVec.msb_eq_getLsbD_last, BitVec.getMsbD, hj, show 7 - j < 8 by omega, show 15 - (8 + j) = 7 - j by omega,
    show 8 + j ≤ 15 by omega]

theorem crcBits_eq_feed (poly r : Half) (b : Byte) {j : Nat} (hj : j ≤ 8) :
    crcBits poly j (r ^^^ b.setWidth 16 <<< 8) =
      ((List.range j).map fun i => b.getMsbD i).foldl (feedBit poly) r ^^^ b.setWidth 16 <<< (8 + j) := by
  induction j with
  | zero => rfl
  | succ j ih =>
    rw [Crc.crcBits_add poly j 1, ih (by omega), Crc.crcBits_succ, crcBit_xor_eq_feedBit, msb_shiftLeft_byte b hj,
      ← BitVec.shiftLeft_add, List.range_succ, List.map_append, List.foldl_append]
    rfl

/-- A byte into the bytewise register is its eight bits, bit 7 first. -/
theorem crcByte_eq_feed (poly r : Half) (b : Byte) : crcByte poly r b = (bitsMsb b).foldl (feedBit poly) r := by
  have consumed : b.setWidth 16 <<< (8 + 8) = 0#16 := BitVec.shiftLeft_eq_zero (by omega)
  rw [crcByte, crcBits_eq_feed poly r b (Nat.le_refl 8), consumed, BitVec.xor_zero, bitsMsb]

theorem crcFrom_eq_feed (poly r : Half) (data : Bytes) :
    crcFrom poly r data = (bitStream data).foldl (feedBit poly) r := by
  induction data generalizing r with
  | nil => rfl
  | cons b data ih => rw [crcFrom_cons, ih, crcByte_eq_feed, bitStream_cons, List.foldl_append]

/-- Settles O12, by induction on the bytes from the initial register. -/
theorem crcConsumesTheBitStream : Obligations.CrcConsumesTheBitStream := fun p data =>
  crcFrom_eq_feed p.crcPoly 0xFFFF#16 data

end Sys2Proof.CrcStream

/-! SUPPORT. `SPLIT` and reassembly (spec/43_fragmentation.md R142, R143, R151). The fragments are consecutive slices
of the message; reassembly keeps the set of the ids fed so far, and the order they came in leaves no trace. -/

namespace Sys2Proof.Reassembly

open Sys2Proof.Machine

/-! ## The fragments of a message (R142, R143) -/

section

variable {p : Params} {msg : Bytes}

/-- The ids of a message: 0, and every other whose slice is not empty. -/
theorem lt_splitCount_iff (size : p.fragmentSize ≠ 0#16) {i : Nat} :
    i < splitCount p msg ↔ i = 0 ∨ i * p.fragmentSize.toNat < msg.length := by
  have pos : 0 < p.fragmentSize.toNat := by bv_omega
  rw [splitCount, fragsNeeded, lt_max_iff, Nat.lt_one_iff, Arq.lt_ceilDiv_iff pos]

theorem splitCount_pos (p : Params) (msg : Bytes) : 0 < splitCount p msg :=
  Nat.lt_of_lt_of_le Nat.one_pos (Nat.le_max_left _ _)

/-- The slices reach the end of the message. -/
theorem length_le_splitCount_mul (size : p.fragmentSize ≠ 0#16) :
    msg.length ≤ splitCount p msg * p.fragmentSize.toNat := by
  have beyond : ¬ splitCount p msg < splitCount p msg := Nat.lt_irrefl _
  rw [lt_splitCount_iff size] at beyond
  omega

/-- Consecutive slices concatenate to a front part. -/
theorem flatten_splitPayload (p : Params) (msg : Bytes) (n : Nat) :
    ((List.range n).map (splitPayload p msg)).flatten = msg.take (n * p.fragmentSize.toNat) := by
  induction n with
  | zero => simp
  | succ n ih =>
    rw [List.range_succ, List.map_append, List.flatten_append, ih, Nat.succ_mul, List.take_add]
    simp [splitPayload, slice]

theorem splitPayloads_flatten (size : p.fragmentSize ≠ 0#16) : (splitPayloads p msg).flatten = msg := by
  rw [splitPayloads, flatten_splitPayload, List.take_of_length_le (length_le_splitCount_mul size)]

end

/-- Settles O29: the slices' concatenation, and each length from how much of the message is left. -/
theorem splitPayloadsConcatenateToTheMessage : Obligations.SplitPayloadsConcatenateToTheMessage := by
  intro p msg size
  refine ⟨splitPayloads_flatten size, by simp [splitPayloads], fun i _ => ?_, fun i next => ?_, fun some => ?_⟩
  · rw [Frag.splitPayload_length]
    exact Nat.min_le_left _ _
  · rw [lt_splitCount_iff size, Nat.succ_mul] at next
    rw [Frag.splitPayload_length]
    omega
  · have long : 0 < msg.length := List.length_pos_iff.mpr some
    have last : splitCount p msg - 1 < splitCount p msg := Nat.sub_lt (splitCount_pos p msg) Nat.one_pos
    rw [lt_splitCount_iff size] at last
    rw [Frag.splitPayload_length]
    rcases last with first | inside
    · rw [first]
      bv_omega
    · bv_omega

/-! ## The fragments collected so far -/

/-- Slot `i` counts as filled for a message: it is valid under the message's tag. -/
def filled (s : State) (key total : Byte) (i : Nat) : Bool :=
  s.rbActive && decide (s.rbKey = key) && decide (s.rbTotal = total) && Bank.get s.rbValid i

theorem validAfter_eq_filled (s : State) (key fid total : Byte) (i : Nat) :
    validAfter s key fid total i = (decide (i = fid.toNat) || filled s key total i) := rfl

theorem filled_of_tag_differs {s : State} {key total : Byte}
    (h : s.rbActive = false ∨ s.rbKey ≠ key ∨ s.rbTotal ≠ total) (i : Nat) : filled s key total i = false := by
  rcases h with h | h | h <;> simp [filled, h]

/-- After storing, the fragment's slot is filled beside those that were. -/
theorem filled_stored (s : State) (key : Byte) {fid total : Byte} (payload : Bytes) (hfid : fid.toNat < 255) {i : Nat}
    (hi : i < 255) :
    filled (Frag.stored s key fid total payload) key total i = validAfter s key fid total i := by
  have active : (Frag.stored s key fid total payload).rbActive = true := by rw [Frag.stored_frame]
  have tagged : (Frag.stored s key fid total payload).rbKey = key := by rw [Frag.stored_frame]
  rw [filled, active, tagged, Frag.stored_rbTotal, Frag.get_rbValid_stored s key payload hfid hi]
  simp

/-- The buffer holds the fragments `done` of the message `msg`, and no other. -/
structure Collected (p : Params) (key : Byte) (msg : Bytes) (done : List Nat) (s : State) : Prop where
  params : s.params = p
  buffers : s.BuffersWf
  filled_iff : ∀ i < 255, filled s key (BitVec.ofNat 8 (splitCount p msg)) i = true ↔ i ∈ done
  bytes : ∀ i ∈ done, s.rbSlot i = splitPayload p msg i

/-- FRG.ACCEPT of fragment `i` of a message. -/
def feedOf (p : Params) (key : Byte) (msg : Bytes) (i : Nat) : Instr :=
  .frgAccept key (BitVec.ofNat 8 i) (BitVec.ofNat 8 (splitCount p msg)) (splitPayload p msg i)

section

variable {p : Params} {key : Byte} {msg : Bytes} {done : List Nat} {s : State} {i last : Nat}

theorem toNat_id (few : splitCount p msg ≤ 255) (hi : i < splitCount p msg) : (BitVec.ofNat 8 i).toNat = i :=
  Nat.mod_eq_of_lt (by omega)

theorem toNat_total (few : splitCount p msg ≤ 255) :
    (BitVec.ofNat 8 (splitCount p msg)).toNat = splitCount p msg := Nat.mod_eq_of_lt (by omega)

theorem id_lt_total (few : splitCount p msg ≤ 255) (hi : i < splitCount p msg) :
    BitVec.ofNat 8 i < BitVec.ofNat 8 (splitCount p msg) := by
  rw [BitVec.lt_def, toNat_id few hi, toNat_total few]
  exact hi

theorem splitPayload_length_le (p : Params) (msg : Bytes) (i : Nat) : (splitPayload p msg i).length ≤ maxPayload p := by
  rw [Frag.splitPayload_length]
  exact (Nat.min_le_left _ _).trans (Nat.le_max_left _ _)

/-- A fragment completes the message when it is the only one missing. -/
theorem Collected.completes_iff (h : Collected p key msg done s) (few : splitCount p msg ≤ 255)
    (hi : i < splitCount p msg) :
    Completes s key (BitVec.ofNat 8 i) (BitVec.ofNat 8 (splitCount p msg)) ↔
      ∀ j < splitCount p msg, j = i ∨ j ∈ done := by
  rw [Completes, toNat_total few]
  refine forall_congr' fun j => imp_congr_right fun hj => ?_
  rw [validAfter_eq_filled, toNat_id few hi, Bool.or_eq_true, decide_eq_true_eq, h.filled_iff j (by omega)]

/-- Feeding a fragment while another is missing adds its id to the collected ones, whether or not it is there already.
-/
theorem Collected.feed (h : Collected p key msg done s) (few : splitCount p msg ≤ 255) (hi : i < splitCount p msg)
    (hlast : last < splitCount p msg) (other : i ≠ last) (missing : last ∉ done) :
    ∃ t, exec (feedOf p key msg i) s = .next t ∧ Collected p key msg (i :: done) t ∧
      t.emitted = s.emitted ++ [.rsp [0x00#8, 0x00#8]] := by
  have good := id_lt_total few hi
  have hfid : (BitVec.ofNat 8 i).toNat < 255 := Frag.toNat_lt_of_lt good
  have incomplete : ¬ Completes s key (BitVec.ofNat 8 i) (BitVec.ofNat 8 (splitCount p msg)) := by
    rw [h.completes_iff few hi]
    exact fun all => (all last hlast).elim (fun e => other e.symm) missing
  have size : (splitPayload p msg i).length ≤ maxPayload s.params := h.params ▸ splitPayload_length_le p msg i
  have run := Frag.exec_frgAccept_of_good (key := key) size good
  rw [Frag.accept_of_not_completes key hfid incomplete] at run
  refine ⟨_, run, ⟨?_, Invariant.stored_buffersWf good h.buffers, fun j hj => ?_, fun j hj => ?_⟩,
    by rw [Frag.stored_frame]; rfl⟩
  · rw [Frag.stored_frame]
    exact h.params
  · have slot := filled_stored s key (total := BitVec.ofNat 8 (splitCount p msg)) (splitPayload p msg i) hfid hj
    rw [validAfter_eq_filled, toNat_id few hi] at slot
    refine (Bool.eq_iff_iff.mp slot).trans ?_
    rw [Bool.or_eq_true, decide_eq_true_eq, h.filled_iff j hj, List.mem_cons]
  · refine (Frag.rbSlot_stored key hfid h.buffers (size.trans_lt (Frag.maxPayload_lt _)) j).trans ?_
    rw [toNat_id few hi]
    by_cases own : j = i
    · rw [if_pos own, own]
    · rw [if_neg own]
      exact h.bytes j ((List.mem_cons.mp hj).resolve_left own)

/-- The slots of a complete buffer and the payload in its place are the message. -/
theorem Collected.completedMessage_eq (h : Collected p key msg done s) (size : p.fragmentSize ≠ 0#16)
    (few : splitCount p msg ≤ 255) (hi : i < splitCount p msg) (all : ∀ j < splitCount p msg, j = i ∨ j ∈ done) :
    completedMessage s (BitVec.ofNat 8 i) (BitVec.ofNat 8 (splitCount p msg)) (splitPayload p msg i) = msg := by
  have slots : ∀ j ∈ List.range (splitCount p msg),
      (if j = i then splitPayload p msg i else s.rbSlot j) = splitPayload p msg j := by
    intro j hj
    by_cases own : j = i
    · rw [if_pos own, own]
    · rw [if_neg own, h.bytes j ((all j (List.mem_range.mp hj)).resolve_left own)]
  have message := splitPayloads_flatten (p := p) (msg := msg) size
  rw [splitPayloads, ← List.map_congr_left slots, ← List.flatMap_def] at message
  rw [completedMessage, toNat_total few, toNat_id few hi]
  exact message

/-- Feeding the only missing fragment answers the message and destroys the buffer. -/
theorem Collected.feed_last (h : Collected p key msg done s) (size : p.fragmentSize ≠ 0#16)
    (few : splitCount p msg ≤ 255) (hi : i < splitCount p msg) (all : ∀ j < splitCount p msg, j = i ∨ j ∈ done) :
    ∃ t, exec (feedOf p key msg i) s = .next t ∧ t.rbActive = false ∧
      t.emitted = s.emitted ++ [.rsp (0x00#8 :: 0x01#8 :: msg)] := by
  have good := id_lt_total few hi
  have hfid : (BitVec.ofNat 8 i).toNat < 255 := Frag.toNat_lt_of_lt good
  have bound : (splitPayload p msg i).length ≤ maxPayload s.params := h.params ▸ splitPayload_length_le p msg i
  have run := Frag.exec_frgAccept_of_good (key := key) bound good
  rw [Frag.accept_of_completes key hfid h.buffers (bound.trans_lt (Frag.maxPayload_lt _))
    ((h.completes_iff few hi).mpr all), h.completedMessage_eq size few hi all] at run
  exact ⟨_, run, rfl, by rw [Frag.stored_frame]; rfl⟩

/-! ## Any order, with repetitions (R151) -/

theorem execAll_cons {j : Instr} (js : List Instr) {t : State} (run : exec j s = .next t) :
    execAll (j :: js) s = execAll js t := by
  rw [execAll, run]

theorem Collected.feed_all (h : Collected p key msg done s) (size : p.fragmentSize ≠ 0#16)
    (few : splitCount p msg ≤ 255) {ids : List Nat} (inside : ∀ i ∈ ids, i < splitCount p msg ∧ i ≠ last)
    (hlast : last < splitCount p msg) (missing : last ∉ done)
    (all : ∀ i < splitCount p msg, i = last ∨ i ∈ done ∨ i ∈ ids) :
    ∃ t, execAll ((ids ++ [last]).map (feedOf p key msg)) s = .next t ∧ t.rbActive = false ∧
      t.emitted = s.emitted ++ ids.map (fun _ => .rsp [0x00#8, 0x00#8]) ++ [.rsp (0x00#8 :: 0x01#8 :: msg)] := by
  induction ids generalizing s done with
  | nil =>
    obtain ⟨t, run, inactive, outs⟩ := h.feed_last size few hlast (by simpa using all)
    exact ⟨t, execAll_cons [] run, inactive, by simpa using outs⟩
  | cons i ids ih =>
    obtain ⟨⟨hi, other⟩, inside⟩ := List.forall_mem_cons.mp inside
    obtain ⟨u, run, collected, outs⟩ := h.feed few hi hlast other missing
    have still : last ∉ i :: done := List.not_mem_cons_of_ne_of_not_mem other.symm missing
    obtain ⟨t, rest, inactive, answers⟩ := ih collected inside still fun j hj => by
      have := all j hj
      simp only [List.mem_cons] at this ⊢
      tauto
    refine ⟨t, (execAll_cons _ run).trans rest, inactive, ?_⟩
    rw [answers, outs]
    simp

end

/-- Settles O32: nothing is collected under another tag, and every fragment fed adds to what is. -/
theorem reassemblyInAnyOrderGivesTheMessage : Obligations.ReassemblyInAnyOrderGivesTheMessage := by
  intro s key msg ids last feed size few buffers differs feeds inside hlast all
  have start : Collected s.params key msg [] s :=
    ⟨rfl, buffers, fun i _ => by simp [filled_of_tag_differs differs i], fun _ none => nomatch none⟩
  obtain rfl : feed = feedOf s.params key msg := funext feeds
  exact start.feed_all size few inside hlast List.not_mem_nil fun i hi => (all i hi).imp_right .inr

end Sys2Proof.Reassembly

/-! SUPPORT. The retry ceiling (spec/44_arq.md R178): a send after which only TICKs come. The state is told by two
numbers, the rounds retransmitted and the ticks since the timer was loaded; after `n` ticks they are quotient and
remainder of `n` by ACK_TIMEOUT. -/

namespace Sys2Proof.Ceiling

open Sys2Proof.Machine

/-! ## The state in a round -/

/-- `c` rounds after the send started in `u` were retransmitted in full and `r` ticks have come since the last. -/
structure InRound (u : State) (c r : Nat) (t : State) : Prop where
  params : t.params = u.params
  state : t.arqState = .pending
  seq : t.sendSeq = u.sendSeq
  frames : (t.txBurst fun i => Bank.get t.pending i) = u.txBurst fun _ => true
  inside : ∀ i < 255, Bank.get t.pending i = true → i < t.txTotal.toNat
  some_pending : ∃ i < 255, Bank.get t.pending i = true
  count : ∀ i < 255, Bank.get t.pending i = true → (Bank.get t.retryCnt i).toNat = c
  timer : t.ackTimer.toNat + r = u.params.ackTimeout.toNat
  emitted : t.emitted = u.emitted ++ (List.replicate c (u.txBurst fun _ => true)).flatten

section

variable {u t : State} {c r : Nat}

theorem InRound.busy (h : InRound u c r t) : t.arqState.inFlight = true := by
  rw [h.state]
  rfl

/-- The counters are all one ahead of the rounds once the timeout has incremented them. -/
theorem InRound.retryAfterTimeout_toNat (h : InRound u c r t) (room : c < 255) {i : Nat} (hi : i < 255)
    (pending : Bank.get t.pending i = true) : (retryAfterTimeout t i).toNat = c + 1 := by
  rw [retryAfterTimeout, if_pos ⟨h.inside i hi pending, pending⟩, BitVec.toNat_add, h.count i hi pending]
  exact Nat.mod_eq_of_lt (show c + 1 < 256 by omega)

theorem InRound.reachesCeiling_iff (h : InRound u c r t) (room : c < 255) :
    ReachesCeiling t ↔ u.params.maxRetry.toNat ≤ c + 1 := by
  constructor
  · rintro ⟨i, hi, pending, reached⟩
    rwa [BitVec.le_def, h.retryAfterTimeout_toNat room hi pending, h.params] at reached
  · intro reached
    obtain ⟨i, hi, pending⟩ := h.some_pending
    refine ⟨i, hi, pending, ?_⟩
    rwa [BitVec.le_def, h.retryAfterTimeout_toNat room hi pending, h.params]

/-- A tick before the timer expires. -/
theorem InRound.count_down (h : InRound u c r t) (running : r + 1 < u.params.ackTimeout.toNat) :
    ∃ t', exec .tick t = .next t' ∧ InRound u c (r + 1) t' := by
  have timer := h.timer
  have above : 1#32 < t.ackTimer := by bv_omega
  refine ⟨_, Arq.exec_tick_of_lt h.busy above, ⟨h.params, h.state, h.seq, h.frames, h.inside, h.some_pending, h.count,
    ?_, h.emitted⟩⟩
  show (t.ackTimer - 1#32).toNat + (r + 1) = _
  bv_omega

/-- The tick that expires the timer transmits every fragment again while the ceiling is not reached. -/
theorem InRound.resend (h : InRound u c r t) (expires : r + 1 = u.params.ackTimeout.toNat)
    (below : c + 1 < u.params.maxRetry.toNat) : ∃ t', exec .tick t = .next t' ∧ InRound u (c + 1) 0 t' := by
  have timer := h.timer
  have room : c < 255 := by omega
  have not_reached : ¬ ReachesCeiling t := (h.reachesCeiling_iff room).not.mpr (by omega)
  have run := Arq.exec_tick_of_le h.busy (show t.ackTimer ≤ 1#32 by bv_omega)
  rw [Arq.timeout_of_not_reachesCeiling not_reached, h.frames] at run
  refine ⟨_, run, ⟨h.params, h.state, h.seq, h.frames, h.inside, h.some_pending, fun i hi pending => ?_, ?_, ?_⟩⟩
  · exact (congrArg BitVec.toNat (Arq.get_retryCnt_bumpRetries t hi)).trans
      (h.retryAfterTimeout_toNat room hi pending)
  · exact congrArg (fun p : Params => p.ackTimeout.toNat) h.params
  · rw [State.loadTimer_emitted, State.emitAll_emitted, State.bumpRetries_emitted, h.emitted, List.replicate_succ']
    simp

/-- The tick that expires the timer of the last round ends the send and transmits nothing. -/
theorem InRound.fail (h : InRound u c r t) (expires : r + 1 = u.params.ackTimeout.toNat)
    (last : c + 1 = u.params.maxRetry.toNat) :
    ∃ t', exec .tick t = .next t' ∧ t'.arqState = .failed ∧ t'.sendSeq = u.sendSeq ∧
      t'.emitted = u.emitted ++ (List.replicate c (u.txBurst fun _ => true)).flatten ++ [.evt 0x01#8 0x04#8] := by
  have timer := h.timer
  have reached : ReachesCeiling t := (h.reachesCeiling_iff (by omega)).mpr (by omega)
  have run := Arq.exec_tick_of_le h.busy (show t.ackTimer ≤ 1#32 by bv_omega)
  rw [Arq.timeout_of_reachesCeiling reached] at run
  refine ⟨_, run, rfl, h.seq, ?_⟩
  rw [← h.emitted]
  rfl

/-! ## Ticks alone -/

theorem execAll_append {is js : List Instr} {s t : State} (run : execAll is s = .next t) :
    execAll (is ++ js) s = execAll js t := by
  induction is generalizing s with
  | nil => cases run; rfl
  | cons i is ih =>
    obtain ⟨v, first, -⟩ := Effects.exec_goesOn i s
    rw [Reassembly.execAll_cons is first] at run
    rw [List.cons_append, Reassembly.execAll_cons _ first, ih run]

theorem execAll_ticks_succ {n : Nat} {t' : State} (run : execAll (List.replicate n .tick) u = .next t)
    (tick : exec .tick t = .next t') : execAll (List.replicate (n + 1) .tick) u = .next t' := by
  rw [List.replicate_succ', execAll_append run, Reassembly.execAll_cons [] tick, execAll]

/-- Below MAX_RETRY * ACK_TIMEOUT ticks the send is in flight, `n / ACK_TIMEOUT` rounds on. -/
theorem InRound.after_ticks (start : InRound u 0 0 u) {n : Nat}
    (few : n < u.params.maxRetry.toNat * u.params.ackTimeout.toNat) :
    ∃ t c r, execAll (List.replicate n .tick) u = .next t ∧ InRound u c r t ∧
      n = c * u.params.ackTimeout.toNat + r ∧ r < u.params.ackTimeout.toNat := by
  induction n with
  | zero => exact ⟨u, 0, 0, rfl, start, by simp, Nat.pos_of_mul_pos_left few⟩
  | succ n ih =>
    obtain ⟨t, c, r, run, round, split, bound⟩ := ih (by omega)
    by_cases running : r + 1 < u.params.ackTimeout.toNat
    · obtain ⟨t', tick, next⟩ := round.count_down running
      exact ⟨t', c, r + 1, execAll_ticks_succ run tick, next, by omega, running⟩
    · have expires : r + 1 = u.params.ackTimeout.toNat := by omega
      have whole : n + 1 = (c + 1) * u.params.ackTimeout.toNat := by rw [Nat.succ_mul]; omega
      have below : c + 1 < u.params.maxRetry.toNat := Nat.lt_of_mul_lt_mul_right (whole ▸ few)
      obtain ⟨t', tick, next⟩ := round.resend expires below
      exact ⟨t', c + 1, 0, execAll_ticks_succ run tick, next, whole, by omega⟩

/-- The tick with the number MAX_RETRY * ACK_TIMEOUT is the last of the last round. -/
theorem InRound.after_all_ticks (start : InRound u 0 0 u) (valid : u.params.Valid) :
    ∃ t, execAll (List.replicate (u.params.maxRetry.toNat * u.params.ackTimeout.toNat) .tick) u = .next t ∧
      t.arqState = .failed ∧ t.sendSeq = u.sendSeq ∧
      t.emitted = u.emitted ++ (List.replicate (u.params.maxRetry.toNat - 1) (u.txBurst fun _ => true)).flatten ++
        [.evt 0x01#8 0x04#8] := by
  obtain ⟨-, timeout, ceiling, -⟩ := valid
  have timeout_pos : 0 < u.params.ackTimeout.toNat := by bv_omega
  have ceiling_pos : 0 < u.params.maxRetry.toNat := by bv_omega
  obtain ⟨n, all⟩ := Nat.exists_eq_succ_of_ne_zero (Nat.mul_pos ceiling_pos timeout_pos).ne'
  obtain ⟨t, c, r, run, round, split, bound⟩ := start.after_ticks (n := n) (by omega)
  have last : c + 1 = u.params.maxRetry.toNat := by
    have lower : c < u.params.maxRetry.toNat := Nat.lt_of_mul_lt_mul_right (a := u.params.ackTimeout.toNat) (by omega)
    have upper : u.params.maxRetry.toNat < c + 2 :=
      Nat.lt_of_mul_lt_mul_right (a := u.params.ackTimeout.toNat) (by rw [Nat.add_mul]; omega)
    omega
  have expires : r + 1 = u.params.ackTimeout.toNat := by
    rw [← last, Nat.succ_mul] at all
    omega
  obtain ⟨t', tick, outcome⟩ := round.fail expires last
  rw [all, ← last, Nat.add_sub_cancel]
  exact ⟨t', execAll_ticks_succ run tick, outcome⟩

end

/-! ## The send that starts the rounds (R164) -/

theorem startSend_inRound {s : State} {msg : Bytes} (valid : s.params.Valid) (fits : ¬ TooLong s.params msg) :
    InRound ((s.startSend msg).respond []) 0 0 ((s.startSend msg).respond []) := by
  obtain ⟨-, beyond, some, all, -⟩ := Invariant.startSend_running valid fits
  refine ⟨rfl, rfl, rfl, ?_, fun i hi pending => ?_, some, fun i hi _ => ?_, rfl, by simp⟩
  · refine congrArg (List.map _) (List.filter_congr fun i hi => ?_)
    exact all.mp rfl i (List.mem_range.mp hi)
  · by_contra above
    exact nomatch (beyond i hi (Nat.le_of_not_lt above)).symm.trans pending
  · exact congrArg BitVec.toNat (Bank.get_fill 0#8 i hi)

/-- Settles O44: the rounds counted from the send's first, whose frames are the message's. -/
theorem retryCeilingIsExact : Obligations.RetryCeilingIsExact := by
  intro s u msg burst valid buffers free fits hburst run
  rw [Arq.exec_arqSend_of_fits free fits, Host.Outcome.next.injEq] at run
  have round := startSend_inRound valid fits
  have frames : (u.txBurst fun _ => true) = burst := by
    rw [hburst, ← Arq.txBurst_loadSend valid buffers fits, ← run]
    rfl
  have first : u.emitted = s.emitted ++ burst ++ [.rsp [0x00#8]] := by
    rw [← frames, ← run]
    rfl
  rw [run] at round
  have params : u.params = s.params := by rw [← run]; rfl
  have seq : u.sendSeq = s.sendSeq := by rw [← run]; rfl
  rw [← params] at valid ⊢
  refine ⟨fun n few => ?_, ?_⟩
  · obtain ⟨t, c, r, ticks, inRound, -⟩ := round.after_ticks few
    exact ⟨t, ticks, inRound.state⟩
  · rw [← first, ← frames, ← seq]
    exact round.after_all_ticks valid

end Sys2Proof.Ceiling

/-! SUPPORT. Operands out of range (spec/60_exceptions.md R218, R219). What an operation adds to the outputs tells its
answers apart: a success ends with a response of status 0x00, a stimulus has no response, and a refusal is its code
alone. -/

namespace Sys2Proof.Refusals

open Sys2Proof.Machine Sys2Proof.Effects

/-! ## Answers apart -/

section

variable {s t : State} {i : Instr}

/-- What ends with a success is no answer with another status. -/
theorem ne_answered_of_success {outs : List Output} {e : Byte} {r r' : Bytes}
    (h : t.emitted = s.emitted ++ outs ++ [.rsp (0x00#8 :: r)]) (error : e ≠ 0x00#8) : t ≠ s.answered (e :: r') := by
  rintro rfl
  have last : (s.answered (e :: r')).emitted.getLast? = some (.rsp (e :: r')) := List.getLast?_concat
  rw [h, List.getLast?_concat, Option.some.injEq, Output.rsp.injEq, List.cons.injEq] at last
  exact error last.1.symm

theorem next_ne_of_ne {t u : State} (h : t ≠ u) : (.next t : Host.Outcome State Fault Refusal) ≠ .next u :=
  fun e => h (Host.Outcome.next.inj e)

theorem next_respond_ne {e : Byte} {r : Bytes} (same : t.emitted = s.emitted) (error : e ≠ 0x00#8) :
    (.next (t.respond r) : Host.Outcome State Fault Refusal) ≠ .next (s.answered [e]) :=
  next_ne_of_ne (ne_answered_of_success (outs := []) (r := r) (by rw [List.append_nil, ← same]; rfl) error)

/-- Two refusals are told apart by their codes. -/
theorem next_answered_ne {c e : Byte} (other : c ≠ e) :
    (.next (s.answered [c]) : Host.Outcome State Fault Refusal) ≠ .next (s.answered [e]) :=
  next_ne_of_ne fun h => other (by simpa [State.answered] using congrArg State.emitted h)

/-- A stimulus is not answered (spec/60_exceptions.md R225): it causes frames, deliveries and events alone. -/
theorem no_response_of_stimulus (h : Effect s i t) (stimulus : isCommand i = false) :
    ∃ outs, t.emitted = s.emitted ++ outs ∧ ∀ o ∈ outs, isRsp o = false := by
  have silent : ∃ outs, s.emitted = s.emitted ++ outs ∧ ∀ o ∈ outs, isRsp o = false := ⟨[], by simp, by simp⟩
  cases h with
  | reset _ fresh => rw [fresh]; exact silent
  | passive m =>
    cases m with
    | answered command => nomatch command.symm.trans stimulus
    | undecoded _ drop => rcases drop with rfl | rfl <;> exact silent
    | ignored | badMeta | waiting => exact silent
    | @duplicate f fr => exact ⟨[.tx (s.ackFrame fr)], rfl, by simp [isRsp]⟩
  | send m =>
    cases m with
    | started => nomatch stimulus
    | partlyAcked | countedDown => exact silent
    | succeeded | failed => exact ⟨[.evt _ _], rfl, by simp [isRsp]⟩
    | resent =>
      refine ⟨s.txBurst fun i => Bank.get s.pending i, rfl, ?_⟩
      intro o sent
      obtain ⟨k, -, rfl⟩ := List.mem_map.mp sent
      rfl
  | recv m =>
    cases m with
    | accepted | dropped => nomatch stimulus
    | @kept f fr => exact ⟨[.tx (s.ackFrame fr)], by simp, by simp [isRsp]⟩
    | @delivered f fr _ _ msg => exact ⟨[.tx (s.ackFrame fr), .dlv msg], by simp, by simp [isRsp]⟩

theorem exec_ne_answered_of_stimulus {r : Bytes} (stimulus : isCommand i = false) :
    exec i s ≠ .next (s.answered r) := by
  intro run
  obtain ⟨outs, added, silent⟩ := no_response_of_stimulus (effect_of_exec run) stimulus
  have response : [Output.rsp r] = outs := List.append_cancel_left added
  subst response
  simp [isRsp] at silent

end

/-! ## BAD_OPERAND (R218) -/

/-- BAD_OPERAND is answered exactly when the operands are out of range. -/
abbrev RefusedByRange (i : Instr) (s : State) : Prop :=
  exec i s = .next (s.answered [0x23#8]) ↔ i.wellFormed s.params = false

section

variable {s : State} {i : Instr}

/-- A command with one check refuses when the check says so. -/
theorem refusedByRange_of_check {c : Prop} [Decidable c] {r : Bytes}
    (run : exec i s = if c then .next (s.raise .badOperand) else .next (s.respond r))
    (range : c ↔ i.wellFormed s.params = false) : RefusedByRange i s := by
  rw [RefusedByRange, ← range, run]
  split
  · next refused => exact iff_of_true rfl refused
  · next answered => exact iff_of_false (next_respond_ne rfl (by decide)) answered

/-- Operands of every value are in range, and no answer is BAD_OPERAND. -/
theorem refusedByRange_of_total (total : i.wellFormed s.params = true)
    (other : exec i s ≠ .next (s.answered [0x23#8])) : RefusedByRange i s := by
  rw [RefusedByRange, total]
  exact iff_of_false other Bool.noConfusion

theorem refusedByRange_frmDec (f : Bytes) (s : State) : RefusedByRange (.frmDec f) s := by
  refine refusedByRange_of_total rfl ?_
  have arm : exec (.frmDec f) s = execFrmDec f s := rfl
  rw [arm, execFrmDec]
  cases frameDecode s.params f with
  | ok fr => exact next_respond_ne rfl (by decide)
  | error e => cases e <;> exact next_answered_ne (by decide)

theorem refusedByRange_frgAccept (key fid total : Byte) (payload : Bytes) (s : State) :
    RefusedByRange (.frgAccept key fid total payload) s := by
  by_cases large : maxPayload s.params < payload.length
  · exact iff_of_true (Frag.exec_frgAccept_of_lt large) (decide_eq_false (Nat.not_le.mpr large))
  have size := Nat.not_lt.mp large
  refine refusedByRange_of_total (decide_eq_true size) ?_
  by_cases bad : total = 0#8 ∨ total ≤ fid
  · rw [Frag.exec_frgAccept_of_badMeta size bad]
    exact next_answered_ne (by decide)
  · rw [Frag.exec_frgAccept_of_good size (BitVec.not_le.mp fun le => bad (.inr le))]
    exact next_respond_ne (Arq.accept_emitted _ _ _ _ _) (by decide)

theorem refusedByRange_arqSend (msg : Bytes) (s : State) : RefusedByRange (.arqSend msg) s := by
  refine refusedByRange_of_total rfl ?_
  cases flying : s.arqState.inFlight with
  | true =>
    rw [Arq.exec_arqSend_of_inFlight flying]
    exact next_answered_ne (by decide)
  | false =>
    by_cases long : TooLong s.params msg
    · rw [Arq.exec_arqSend_of_tooLong flying long]
      exact next_answered_ne (by decide)
    · rw [Arq.exec_arqSend_of_fits flying long]
      exact next_ne_of_ne (ne_answered_of_success rfl (by decide))

/-- The file has content at its indices and nowhere else (spec/10_state.md R27). -/
theorem statValue_eq_none_iff (s : State) (idx : Byte) :
    s.statValue idx = none ↔ statIndices.contains idx = false := by
  unfold State.statValue
  split
  case h_17 => simp_all [statIndices]
  all_goals exact iff_of_false (fun h => nomatch h) (by decide)

theorem refusedByRange_statRd (idx : Byte) (s : State) : RefusedByRange (.statRd idx) s := by
  refine Iff.trans ?_ (statValue_eq_none_iff s idx)
  cases content : s.statValue idx with
  | none => exact iff_of_true (System.exec_statRd_of_none content) rfl
  | some v =>
    rw [System.exec_statRd_of_some content]
    exact iff_of_false (next_respond_ne (s := s) rfl (by decide)) (fun h => nomatch h)

theorem refusedByRange (i : Instr) (s : State) (other : ∀ msg, i ≠ .frgSplit msg) : RefusedByRange i s := by
  cases i with
  | crcCompute | crcVerify | hamEnc | hamDec | fecEnc | frmEnc =>
    exact refusedByRange_of_check rfl (by simp [Instr.wellFormed])
  | fecDec => exact refusedByRange_of_check rfl (by simp [Instr.wellFormed, or_iff_not_imp_left])
  | frmDec f => exact refusedByRange_frmDec f s
  | frgAccept key fid total payload => exact refusedByRange_frgAccept key fid total payload s
  | arqSend msg => exact refusedByRange_arqSend msg s
  | statRd idx => exact refusedByRange_statRd idx s
  | frgSplit msg => exact absurd rfl (other msg)
  | frgShould => exact refusedByRange_of_total rfl (next_respond_ne rfl (by decide))
  | frgDrop => exact refusedByRange_of_total rfl (next_respond_ne (t := s.destroyRb) rfl (by decide))
  | rx | tick | reset => exact refusedByRange_of_total rfl (exec_ne_answered_of_stimulus rfl)

end

/-! ## TOO_LONG of FRG.SPLIT (R219) -/

theorem maxFrags_lt_splitCount_iff (p : Params) (msg : Bytes) :
    maxFrags < splitCount p msg ↔ maxFrags < fragsNeeded p msg.length := by
  simp [splitCount, maxFrags]

/-- The count decides between the refusal and an answer of status 0x00. -/
theorem frgSplit_outcome (msg : Bytes) (s : State) :
    exec (.frgSplit msg) s ≠ .next (s.answered [0x23#8]) ∧
    (exec (.frgSplit msg) s = .next (s.answered [0x21#8]) ↔ maxFrags < fragsNeeded s.params msg.length) := by
  rw [← maxFrags_lt_splitCount_iff]
  by_cases many : maxFrags < splitCount s.params msg
  · rw [Frag.exec_frgSplit_of_lt many]
    exact ⟨next_answered_ne (by decide), iff_of_true rfl many⟩
  · rw [Frag.exec_frgSplit_of_le (Nat.not_lt.mp many)]
    exact ⟨next_respond_ne rfl (by decide), iff_of_false (next_respond_ne rfl (by decide)) many⟩

/-- Settles O50, instruction by instruction, and FRG.SPLIT by its count. -/
theorem operandsOutOfRangeAreRefused : Obligations.OperandsOutOfRangeAreRefused := by
  refine ⟨refusedByRange, fun msg s => ?_⟩
  obtain ⟨never, tooLong⟩ := frgSplit_outcome msg s
  have range : (Instr.frgSplit msg).wellFormed s.params = false ↔ maxFrags < fragsNeeded s.params msg.length := by
    simp [Instr.wellFormed]
  exact ⟨never, tooLong.trans range.symm, range⟩

end Sys2Proof.Refusals

/-! SUPPORT. The order of events (spec/20_memory.md R48, spec/60_exceptions.md R226), the sequencer's cases that change
nothing or one counter (spec/44_arq.md), and the tables of codes. -/

namespace Sys2Proof.Events

open Sys2Proof.Machine

/-! ## The next event (log 1, log 2, log 3) -/

theorem nextEvent_eq_none {batches : List (List Event)} (h : ∀ b ∈ batches, b = []) : nextEvent batches = none := by
  induction batches with
  | nil => rfl
  | cons b later ih =>
    obtain ⟨rfl, empty⟩ := List.forall_mem_cons.mp h
    exact ih empty

theorem nextEvent_of_no_reset {e : Event} {rest : List Event} (later : List (List Event))
    (h : Event.reset ∉ e :: rest) : nextEvent ((e :: rest) :: later) = some (e, rest :: later) := by
  rw [nextEvent, if_neg (List.contains_iff_mem.not.mpr h)]

/-- RESET is taken before the stimuli presented with it. -/
theorem nextEvent_of_reset {b : List Event} (later : List (List Event)) (h : Event.reset ∈ b) :
    nextEvent (b :: later) = some (.reset, b.erase .reset :: later) := by
  cases b with
  | nil => nomatch h
  | cons e rest => rw [nextEvent, if_pos (List.contains_iff_mem.mpr h)]

/-- Settles O2: nothing presented is no event, and the two ways a batch goes on. -/
theorem eventsAreTakenInTheOrderPresented : Obligations.EventsAreTakenInTheOrderPresented :=
  ⟨fun s empty => by rw [step, nextEvent_eq_none empty], fun _ _ later => nextEvent_of_no_reset later,
    nextEvent_nil_cons⟩

/-- Settles O3: RESET is the event taken, and its batch is what it discards. -/
theorem resetDominatesItsBatch : Obligations.ResetDominatesItsBatch := by
  intro s b later presented mem
  have next := nextEvent_of_reset later mem
  rw [← presented] at next
  have run := Effects.stepRunsTheDecodedEvent s _ _ _ next rfl
  rw [Reset.exec_reset] at run
  exact ⟨_, run, Reset.atReset_with_environment (Reset.atReset_resetOf s.params) _ _, rfl, rfl, rfl⟩

/-! ## ARQ.SEND refused, TICK and acknowledgments without effect (R162, R166, R169) -/

/-- Settles O33: the two refusals, in the order R162 tests them. -/
theorem arqSendRefusals : Obligations.ArqSendRefusals := fun _ _ =>
  ⟨rfl, fun busy => Arq.exec_arqSend_of_inFlight ((Arq.inFlight_eq_true_iff _).mpr busy),
    fun free => Arq.exec_arqSend_of_tooLong ((Arq.inFlight_eq_false_iff _).mpr free)⟩

/-- Settles O37: the marker makes it an acknowledgment, and one that does not count leaves the state. -/
theorem otherAcksAreIgnored : Obligations.OtherAcksAreIgnored := by
  intro f fr s ok marker ignored
  rw [Arq.exec_rx_of_ok ok, Arq.receiveFrame_of_not_counts marker ignored]

/-- Settles O41: no send, or a timer above 1. -/
theorem tickCountsDown : Obligations.TickCountsDown := by
  refine fun s => ⟨fun free => Arq.exec_tick_of_not_inFlight ((Arq.inFlight_eq_false_iff _).mpr free),
    fun busy running => ?_⟩
  have down : s.ackTimer - 1#32 = BitVec.ofNat 32 (s.ackTimer.toNat - 1) := by bv_omega
  rw [Arq.exec_tick_of_lt ((Arq.inFlight_eq_true_iff _).mpr busy) (by bv_omega), down]

/-! ## Dropped datagrams (R173, R174; spec/10_state.md R19) -/

/-- The drop counters stay at 0xFFFF. -/
theorem satInc_eq (c : Half) : satInc c = BitVec.ofNat 16 (min (c.toNat + 1) 65535) := by
  unfold satInc
  split
  · next full => rw [full]; rfl
  · next room => bv_omega

section

variable {f : Bytes} {s : State}

theorem exec_rx_of_integrity (h : frameDecode s.params f = .error .integrity) :
    exec (.rx f) s = .next s.dropIntegrity := by
  have arm : exec (.rx f) s = execRx f s := rfl
  rw [arm, execRx, h]

/-- The three MALFORMED kinds move one counter (spec/60_exceptions.md R211 to R213). -/
theorem exec_rx_of_malformed {e : FrameError} (h : frameDecode s.params f = .error e) (kind : e ≠ .integrity) :
    exec (.rx f) s = .next s.dropMalformed := by
  have arm : exec (.rx f) s = execRx f s := rfl
  rw [arm, execRx, h]
  cases e with
  | short | oversize | length => rfl
  | integrity => exact absurd rfl kind

theorem frameDecode_of_size {p : Params} (h : f.length < 7 ∨ maxFrame p < f.length) :
    ∃ e, frameDecode p f = .error e ∧ e ≠ .integrity := by
  by_cases short : f.length < minFrame
  · exact ⟨.short, by rw [frameDecode, if_pos short], by decide⟩
  · exact ⟨.oversize, by rw [frameDecode, if_neg short, if_pos (h.resolve_left short)], by decide⟩

theorem frameDecode_of_length {p : Params} (hmin : minFrame ≤ f.length) (hmax : f.length ≤ maxFrame p)
    (check : crc16 p (f.take (f.length - 2)) = halfAt f (f.length - 2))
    (h : f.length - minFrame ≠ fecLen (halfAt f (f.length - 4)).toNat) : frameDecode p f = .error .length := by
  rw [frameDecode, if_neg (Nat.not_lt.mpr hmin), if_neg (Nat.not_lt.mpr hmax), if_neg (not_not.mpr check), if_pos h]

/-- The check value of a frame that is long enough, as its last two bytes. -/
theorem halfAt_check (h : 7 ≤ f.length) :
    halfAt f (f.length - 2) = f.getD (f.length - 2) 0x00#8 ++ f.getD (f.length - 1) 0x00#8 := by
  rw [halfAt, show f.length - 2 + 1 = f.length - 1 by omega]
  rfl

/-- The length field of a frame that is long enough, as a number. -/
theorem halfAt_length (h : 7 ≤ f.length) :
    (halfAt f (f.length - 4)).toNat =
      256 * (f.getD (f.length - 4) 0x00#8).toNat + (f.getD (f.length - 3) 0x00#8).toNat := by
  rw [halfAt, Encoding.toNat_unBe16, show f.length - 4 + 1 = f.length - 3 by omega, Nat.mul_comm]
  rfl

end

/-- Settles O38: each kind of datagram by the test of R125 that fails, and its counter. -/
theorem badDatagramsAreCountedAndDropped : Obligations.BadDatagramsAreCountedAndDropped := by
  intro f s
  simp only [← satInc_eq]
  refine ⟨fun size => ?_, fun hmin hmax check => ?_, fun hmin hmax check len => ?_, fun fr ok data bad => ?_⟩
  · obtain ⟨e, error, kind⟩ := frameDecode_of_size size
    exact exec_rx_of_malformed error kind
  · rw [← halfAt_check hmin] at check
    exact exec_rx_of_integrity (Crc.frameDecode_of_crc_ne hmin hmax check)
  · rw [← halfAt_check hmin] at check
    rw [← halfAt_length hmin] at len
    exact exec_rx_of_malformed (frameDecode_of_length hmin hmax check len) (by decide)
  · rw [Arq.exec_rx_of_ok ok, Arq.receiveFrame_of_badMeta data ((Frag.badMeta_iff _ _).mpr bad)]
    rfl

/-! ## Codes (spec/10_state.md R13, spec/60_exceptions.md R210) -/

/-- Settles O59: both code columns, and the two states with a send in flight. -/
theorem codesAreTheTables : Obligations.CodesAreTheTables := ⟨rfl, Arq.inFlight_eq_true_iff, rfl⟩

end Sys2Proof.Events

/-! SUPPORT. The reassembly buffer's invariant on its own (spec/10_state.md R24). -/

namespace Sys2Proof.Invariant

open Sys2Proof.Machine Sys2Proof.Effects

/-- Settles O53: the schedule is no part of the buffer, and every effect keeps its invariant. -/
theorem reassemblyInvariantIsKept : Obligations.ReassemblyInvariantIsKept := fun _ _ h run =>
  step_keeps (fun _ _ h => h) (fun _ _ _ => effect_keeps_rbInv) h run

end Sys2Proof.Invariant

/-! SUPPORT. The Hamming(7,4) unit (spec/41_hamming.md R101 to R104). The one idea: the syndrome of a codeword with an
error is the error's position, and every word with syndrome 0 is a codeword. So a word is its corrected codeword with
the error its syndrome names, and no other codeword is within distance 1. -/

namespace Sys2Proof.Hamming

open Sys2Proof.Machine

/-! ## Codewords and errors -/

/-- The number of set bits: the distance of two words is the weight of their difference. -/
abbrev weight {w : Nat} (v : BitVec w) : Nat := ((bitsMsb v).filter id).length

/-- What `flipPos` changes: the bit at a position 1 to 7, or none. -/
def errorAt (pos : BitVec 3) : BitVec 7 := if pos = 0#3 then 0#7 else 1#7 <<< (7 - pos.toNat)

theorem errorAt_of_ne {pos : BitVec 3} (h : pos ≠ 0#3) : errorAt pos = 1#7 <<< (7 - pos.toNat) := if_neg h

theorem flipPos_eq_xor (cw : BitVec 7) (pos : BitVec 3) : flipPos cw pos = cw ^^^ errorAt pos := by
  unfold flipPos errorAt
  split
  · simp
  · rfl

theorem weight_errorAt : ∀ pos : BitVec 3, weight (errorAt pos) = if pos = 0#3 then 0 else 1 := by decide

/-- One of the eight errors is every difference of weight 1 or less. -/
theorem exists_errorAt_of_weight_le_one : ∀ e : BitVec 7, weight e ≤ 1 → ∃ pos, e = errorAt pos := by decide

/-! ## The code (R101, R102) -/

theorem henc_xor : ∀ m n : BitVec 4, henc (m ^^^ n) = henc m ^^^ henc n := by decide

theorem three_le_weight_henc : ∀ n : BitVec 4, n ≠ 0#4 → 3 ≤ weight (henc n) := by decide

/-- Settles O17: the table row by row, and the distance of two codewords as the weight of a third. -/
theorem hammingEncodeTable : Obligations.HammingEncodeTable := by
  refine ⟨by decide, fun m n other => ?_⟩
  rw [← henc_xor]
  exact three_le_weight_henc _ (BitVec.xor_eq_zero_iff.not.mpr other)

/-- The seven positions of a codeword, `p1` first (R101). -/
theorem getLsbD_henc : ∀ n : BitVec 4,
    (henc n).getLsbD 6 = (n.getLsbD 3 ^^ n.getLsbD 2 ^^ n.getLsbD 0) ∧
    (henc n).getLsbD 5 = (n.getLsbD 3 ^^ n.getLsbD 1 ^^ n.getLsbD 0) ∧
    (henc n).getLsbD 4 = n.getLsbD 3 ∧
    (henc n).getLsbD 3 = (n.getLsbD 2 ^^ n.getLsbD 1 ^^ n.getLsbD 0) ∧
    (henc n).getLsbD 2 = n.getLsbD 2 ∧ (henc n).getLsbD 1 = n.getLsbD 1 ∧ (henc n).getLsbD 0 = n.getLsbD 0 := by
  decide

/-! ## The nearest codeword (R103, R104) -/

theorem dataBits_henc : ∀ n : BitVec 4, dataBits (henc n) = n := by decide

/-- The error's position is the syndrome, whatever the codeword. -/
theorem syndrome_henc_xor_errorAt : ∀ (n : BitVec 4) (pos : BitVec 3), syndrome (henc n ^^^ errorAt pos) = pos := by
  decide

theorem syndrome_flipPos : ∀ w : BitVec 7, syndrome (flipPos w (syndrome w)) = 0#3 := by decide

theorem henc_dataBits : ∀ w : BitVec 7, syndrome w = 0#3 → henc (dataBits w) = w := by decide

theorem hdec_henc_xor_errorAt (n : BitVec 4) (pos : BitVec 3) : hdec (henc n ^^^ errorAt pos) = (n, pos) := by
  have corrected : flipPos (henc n ^^^ errorAt pos) pos = henc n := by
    rw [flipPos_eq_xor, BitVec.xor_assoc, BitVec.xor_self, BitVec.xor_zero]
  rw [hdec, syndrome_henc_xor_errorAt, corrected, dataBits_henc]

/-- The codeword of a decoded word is the word as corrected. -/
theorem henc_hdec (w : BitVec 7) : henc (hdec w).1 = w ^^^ errorAt (hdec w).2 := by
  rw [← flipPos_eq_xor]
  exact henc_dataBits _ (syndrome_flipPos w)

theorem weight_xor_henc_hdec (w : BitVec 7) :
    weight (w ^^^ henc (hdec w).1) = if (hdec w).2 = 0#3 then 0 else 1 := by
  rw [henc_hdec, ← BitVec.xor_assoc, BitVec.xor_self, BitVec.zero_xor, weight_errorAt]

/-- A word within distance 1 of a codeword decodes to its nibble. -/
theorem hdec_of_weight_le_one {n : BitVec 4} {w : BitVec 7} (near : weight (w ^^^ henc n) ≤ 1) : (hdec w).1 = n := by
  obtain ⟨pos, error⟩ := exists_errorAt_of_weight_le_one _ near
  have word : w = henc n ^^^ errorAt pos := by
    rw [← error, BitVec.xor_comm w, ← BitVec.xor_assoc, BitVec.xor_self, BitVec.zero_xor]
  rw [word, hdec_henc_xor_errorAt]

/-- Settles O18: correction finds the error added, so the nearest codeword is the one decoded. -/
theorem hammingDecodeIsNearestCodeword : Obligations.HammingDecodeIsNearestCodeword := by
  refine ⟨fun n => ?_, fun n k flipped => ?_, fun w => ⟨weight_xor_henc_hdec w, fun m near => ?_⟩, by decide,
    fun n w far decoded => ?_⟩
  · have none := hdec_henc_xor_errorAt n 0#3
    rwa [errorAt, if_pos rfl, BitVec.xor_zero] at none
  · rw [← errorAt_of_ne flipped]
    exact hdec_henc_xor_errorAt n k
  · exact (hdec_of_weight_le_one near).symm
  · have near : weight (w ^^^ henc n) = if (hdec w).2 = 0#3 then 0 else 1 := decoded ▸ weight_xor_henc_hdec w
    have apart : 2 ≤ weight (w ^^^ henc n) := far
    split at near <;> omega

/-! ## HAM.ENC (R101) -/

theorem exec_hamEnc (nib : Byte) (s : State) : exec (.hamEnc nib) s = execHamEnc nib s := rfl

theorem exec_hamEnc_of_lt {nib : Byte} (s : State) (h : 15#8 < nib) :
    exec (.hamEnc nib) s = .next (s.answered [0x23#8]) := by
  rw [exec_hamEnc, execHamEnc, if_pos h]
  rfl

theorem exec_hamEnc_of_le {nib : Byte} (s : State) (h : nib ≤ 15#8) :
    exec (.hamEnc nib) s = .next (s.answered [0x00#8, (henc (nib.setWidth 4)).setWidth 8]) := by
  rw [exec_hamEnc, execHamEnc, if_neg (BitVec.not_lt.mpr h)]
  rfl

/-- Settles O15: the answered byte is the codeword, whose positions are the parity equations'. -/
theorem hamEncAnswersTheCodeword : Obligations.HamEncAnswersTheCodeword := by
  refine ⟨fun _ => rfl, fun _ => System.parseU8_of_length_ne _, fun _ s => exec_hamEnc_of_lt s,
    fun nib s h => ⟨_, exec_hamEnc_of_le s h, ?_⟩, fun s => exec_hamEnc_of_le s (by decide)⟩
  simpa using getLsbD_henc (nib.setWidth 4)

/-! ## HAM.DEC (R103) -/

theorem exec_hamDec (cw : Byte) (s : State) : exec (.hamDec cw) s = execHamDec cw s := rfl

theorem exec_hamDec_of_lt {cw : Byte} (s : State) (h : 127#8 < cw) :
    exec (.hamDec cw) s = .next (s.answered [0x23#8]) := by
  rw [exec_hamDec, execHamDec, if_pos h]
  rfl

theorem exec_hamDec_of_le {cw : Byte} (s : State) (h : cw ≤ 127#8) :
    exec (.hamDec cw) s =
      .next (s.answered [0x00#8, (hdec (cw.setWidth 7)).1.setWidth 8, (hdec (cw.setWidth 7)).2.setWidth 8]) := by
  rw [exec_hamDec, execHamDec, if_neg (BitVec.not_lt.mpr h)]
  rfl

/-- The three syndrome equations as the number they index (R103). -/
theorem toNat_syndrome : ∀ w : BitVec 7, (syndrome w).toNat =
    4 * (w.getLsbD 3 ^^ w.getLsbD 2 ^^ w.getLsbD 1 ^^ w.getLsbD 0).toNat +
    2 * (w.getLsbD 5 ^^ w.getLsbD 4 ^^ w.getLsbD 1 ^^ w.getLsbD 0).toNat +
    (w.getLsbD 6 ^^ w.getLsbD 4 ^^ w.getLsbD 2 ^^ w.getLsbD 0).toNat := by
  decide

theorem toNat_dataBits : ∀ w : BitVec 7, (dataBits w).toNat =
    8 * (w.getLsbD 4).toNat + 4 * (w.getLsbD 2).toNat + 2 * (w.getLsbD 1).toNat + (w.getLsbD 0).toNat := by
  decide

/-- The error as a byte, positions still counted in seven bits. -/
theorem setWidth_errorAt : ∀ pos : BitVec 3, (errorAt pos).setWidth 8 =
    if pos.setWidth 8 = 0#8 then 0#8 else 1#8 <<< (7 - (pos.setWidth 8).toNat) := by
  decide

/-- The corrected word as a byte. -/
theorem setWidth_flipPos {cw : Byte} (h : cw ≤ 127#8) (pos : BitVec 3) :
    (flipPos (cw.setWidth 7) pos).setWidth 8 =
      if pos.setWidth 8 = 0#8 then cw else cw ^^^ (1#8 <<< (7 - (pos.setWidth 8).toNat)) := by
  have whole : (cw.setWidth 7).setWidth 8 = cw := by bv_omega
  rw [flipPos_eq_xor, BitVec.setWidth_xor, whole, setWidth_errorAt]
  split
  · exact BitVec.xor_zero
  · rfl

/-- Settles O16: the syndrome's equations, the bit they name flipped, and the data bits' places. -/
theorem hamDecAnswersTheCorrectedNibble : Obligations.HamDecAnswersTheCorrectedNibble := by
  refine ⟨fun _ => rfl, fun _ => System.parseU8_of_length_ne _, fun _ s => exec_hamDec_of_lt s,
    fun cw s h => ⟨_, _, _, exec_hamDec_of_le s h, ?_, setWidth_flipPos h _, ?_⟩,
    fun s => exec_hamDec_of_le s (by decide)⟩
  · rw [BitVec.toNat_setWidth_of_le (by decide)]
    simpa [hdec] using toNat_syndrome (cw.setWidth 7)
  · rw [BitVec.toNat_setWidth_of_le (by decide)]
    simpa [hdec] using toNat_dataBits (flipPos (cw.setWidth 7) (syndrome (cw.setWidth 7)))

end Sys2Proof.Hamming

/-! SUPPORT. The FEC byte stream (spec/41_hamming.md R105 to R108). Reading a packed stream gives the bits packed, so
the image's stream is the coded bits, padded. The word at a span of a stream is read off its seven bits, and the errors
inside the span are the weight of its difference from the encoder's word there. -/

namespace Sys2Proof.Fec

open Sys2Proof.Machine Sys2Proof.Hamming

/-! ## Bits and numbers (spec/00_scope.md R7) -/

theorem natOfBits_concat (bs : List Bool) (b : Bool) : natOfBits (bs ++ [b]) = 2 * natOfBits bs + b.toNat := by
  simp [natOfBits]

/-- The last bit is the least significant. -/
theorem testBit_natOfBits (bs : List Bool) (k : Nat) : (natOfBits bs).testBit k = bs.reverse.getD k false := by
  induction bs using List.reverseRecOn generalizing k with
  | nil => simp [natOfBits]
  | append_singleton bs b ih =>
    have bound : b.toNat < 2 := b.toNat_lt
    rw [natOfBits_concat, List.reverse_concat]
    cases k with
    | zero => cases b <;> simp [Nat.testBit_zero, Nat.add_mod]
    | succ k =>
      have shifted : (2 * natOfBits bs + b.toNat) / 2 = natOfBits bs := by omega
      rw [Nat.testBit_succ, shifted, ih, List.getD_cons_succ]

theorem getElem?_bitsMsb {w : Nat} (v : BitVec w) {k : Nat} (h : k < w) : (bitsMsb v)[k]? = some (v.getMsbD k) := by
  simp [bitsMsb, h]

theorem bitsMsb_injective {w : Nat} {u v : BitVec w} (h : bitsMsb u = bitsMsb v) : u = v := by
  refine BitVec.eq_of_getMsbD_eq fun k hk => Option.some.inj ?_
  rw [← getElem?_bitsMsb u hk, h, getElem?_bitsMsb v hk]

/-- As many bits as the width are the digits of their number. -/
theorem bitsMsb_natOfBits {bs : List Bool} {w : Nat} (size : bs.length = w) :
    bitsMsb (BitVec.ofNat w (natOfBits bs)) = bs := by
  subst size
  refine List.ext_getElem (bitsMsb_length _) fun k _ hk => ?_
  have inside : bs.length - 1 - k < bs.length := by omega
  have mirrored : bs.length - 1 - (bs.length - 1 - k) = k := by omega
  simp [bitsMsb, BitVec.getMsbD, BitVec.getLsbD_ofNat, testBit_natOfBits, inside, mirrored, hk]

/-! ## Packing (R105) -/

/-- Whole bytes are cut without a rest. -/
theorem bitStream_cutBytes {bs : List Bool} (whole : bs.length % 8 = 0) : bitStream (cutBytes bs) = bs := by
  fun_induction cutBytes bs with
  | case1 a b c d e f g h rest ih =>
    simp only [List.length_cons] at whole
    rw [bitStream_cons, bitsMsb_natOfBits (bs := [a, b, c, d, e, f, g, h]) (w := 8) rfl, ih (by omega)]
    rfl
  | case2 bs short =>
    match bs, short, whole with
    | a :: b :: c :: d :: e :: f :: g :: h :: rest, short, _ => exact (short a b c d e f g h rest rfl).elim
    | [], _, _ => rfl

theorem bitStream_fecEncode (d : Bytes) : bitStream (fecEncode d) = padToBytes (d.flatMap fecBits) :=
  bitStream_cutBytes (padToBytes_length_mod _)

theorem cutBytes_append {a : List Bool} (whole : a.length % 8 = 0) (b : List Bool) :
    cutBytes (a ++ b) = cutBytes a ++ cutBytes b := by
  fun_induction cutBytes a with
  | case1 _ _ _ _ _ _ _ _ rest ih =>
    simp only [List.length_cons] at whole
    simp only [List.cons_append, cutBytes, ih (by omega)]
  | case2 a short =>
    match a, short, whole with
    | a :: b :: c :: d :: e :: f :: g :: h :: rest, short, _ => exact (short a b c d e f g h rest rfl).elim
    | [], _, _ => rfl

theorem padToBytes_append {a : List Bool} (whole : a.length % 8 = 0) (b : List Bool) :
    padToBytes (a ++ b) = a ++ padToBytes b := by
  rw [padToBytes, padToBytes, List.append_assoc, List.length_append, Nat.add_mod, whole, Nat.zero_add, Nat.mod_mod]

/-- Four bytes make seven (R106): after groups of four the image goes on at a byte boundary. -/
theorem fecEncode_append {a : Bytes} (groups : a.length % 4 = 0) (b : Bytes) :
    fecEncode (a ++ b) = fecEncode a ++ fecEncode b := by
  have whole : (a.flatMap fecBits).length % 8 = 0 := by
    rw [fecBits_flatMap_length]
    omega
  have unpadded : padToBytes (a.flatMap fecBits) = a.flatMap fecBits := by
    rw [padToBytes, whole]
    simp
  rw [fecEncode, List.flatMap_append, padToBytes_append whole, cutBytes_append whole, fecEncode, unpadded, fecEncode]

/-- Fourteen bits of the coded stream belong to one byte. -/
theorem drop_flatMap_fecBits (d : Bytes) (j : Nat) :
    (d.flatMap fecBits).drop (14 * j) = (d.drop j).flatMap fecBits := by
  induction j generalizing d with
  | zero => rfl
  | succ j ih =>
    cases d with
    | nil => simp
    | cons b d =>
      rw [List.flatMap_cons, Nat.mul_succ, Nat.add_comm, ← List.drop_drop, List.drop_left' (fecBits_length b), ih,
        List.drop_succ_cons]

/-- The image's stream from byte `j` on: its two codewords, high nibble first, then the rest. -/
theorem drop_bitStream_fecEncode {d : Bytes} {j : Nat} (h : j < d.length) :
    ∃ rest, (bitStream (fecEncode d)).drop (14 * j) =
      bitsMsb (henc (d[j].extractLsb' 4 4)) ++ (bitsMsb (henc (d[j].extractLsb' 0 4)) ++ rest) := by
  refine ⟨(d.drop (j + 1)).flatMap fecBits ++ List.replicate ((8 - (d.flatMap fecBits).length % 8) % 8) false, ?_⟩
  rw [bitStream_fecEncode, padToBytes, List.drop_append_of_le_length (by simp; omega), drop_flatMap_fecBits,
    List.drop_eq_getElem_cons h, List.flatMap_cons, fecBits]
  simp only [List.append_assoc]

/-! ## The words of a stream (R107) -/

theorem bitsMsb_codewordOf {bits : List Bool} (h : 7 ≤ bits.length) : bitsMsb (codewordOf bits) = bits.take 7 :=
  bitsMsb_natOfBits (by simp [h])

theorem codewordOf_bitsMsb_append (c : BitVec 7) (rest : List Bool) : codewordOf (bitsMsb c ++ rest) = c :=
  bitsMsb_injective <| by
    rw [bitsMsb_codewordOf (by simp), List.take_left' (bitsMsb_length c)]

/-- The word in codeword span `m` of an image (R109). -/
def spanWord (img : Bytes) (m : Nat) : BitVec 7 := codewordOf ((bitStream img).drop (7 * m))

theorem getElem?_span {img : Bytes} {m k : Nat} (inside : 7 * m + 7 ≤ 8 * img.length) (hk : k < 7) :
    (bitStream img)[7 * m + k]? = some ((spanWord img m).getMsbD k) := by
  rw [← getElem?_bitsMsb _ hk, spanWord, bitsMsb_codewordOf (by simp; omega), List.getElem?_take_of_lt hk,
    List.getElem?_drop]

theorem fecDecodeBits_getElem? {n j : Nat} (h : j < n) (bits : List Bool) :
    (fecDecodeBits n bits)[j]? =
      some ((hdec (codewordOf (bits.drop (14 * j)))).1 ++ (hdec (codewordOf (bits.drop (14 * j + 7)))).1) := by
  induction n generalizing j bits with
  | zero => omega
  | succ n ih =>
    cases j with
    | zero => rfl
    | succ j =>
      rw [fecDecodeBits, List.getElem?_cons_succ, ih (by omega), List.drop_drop, List.drop_drop,
        show 14 + 14 * j = 14 * (j + 1) by omega, show 14 + (14 * j + 7) = 14 * (j + 1) + 7 by omega]

/-- Byte `j` comes from the spans `2 * j` and `2 * j + 1`. -/
theorem fecDecode_getElem? (img : Bytes) {n j : Nat} (h : j < n) :
    (fecDecode img n)[j]? = some ((hdec (spanWord img (2 * j))).1 ++ (hdec (spanWord img (2 * j + 1))).1) := by
  rw [fecDecode, fecDecodeBits_getElem? h, spanWord, spanWord, show 7 * (2 * j) = 14 * j by omega,
    show 7 * (2 * j + 1) = 14 * j + 7 by omega]

/-! ## The encoder's words -/

theorem span_inside_fecEncode {d : Bytes} {m : Nat} (h : m < 2 * d.length) :
    7 * m + 7 ≤ 8 * (fecEncode d).length := by
  rw [Crc.fecEncode_length, fecLen, ceilDiv]
  omega

theorem spanWord_fecEncode {d : Bytes} {j : Nat} (h : j < d.length) :
    spanWord (fecEncode d) (2 * j) = henc (d[j].extractLsb' 4 4) ∧
    spanWord (fecEncode d) (2 * j + 1) = henc (d[j].extractLsb' 0 4) := by
  obtain ⟨rest, stream⟩ := drop_bitStream_fecEncode h
  constructor
  · rw [spanWord, show 7 * (2 * j) = 14 * j by omega, stream, codewordOf_bitsMsb_append]
  · rw [spanWord, show 7 * (2 * j + 1) = 14 * j + 7 by omega, ← List.drop_drop, stream,
      List.drop_left' (bitsMsb_length _), codewordOf_bitsMsb_append]

/-! ## Errors inside a span (R108) -/

theorem weight_eq_count {w : Nat} (v : BitVec w) : weight v = ((List.range w).filter fun k => v.getMsbD k).length := by
  rw [weight, bitsMsb, List.filter_map, List.length_map]
  rfl

theorem spanErrors_eq_weight {a b : Bytes} {m : Nat} (ha : 7 * m + 7 ≤ 8 * a.length)
    (hb : 7 * m + 7 ≤ 8 * b.length) :
    spanErrors a b m = weight (spanWord a m ^^^ spanWord b m) := by
  rw [weight_eq_count, spanErrors]
  congr 1
  refine List.filter_congr fun k hk => ?_
  rw [getElem?_span ha (List.mem_range.mp hk), getElem?_span hb (List.mem_range.mp hk), BitVec.getMsbD_xor]
  cases (spanWord a m).getMsbD k <;> cases (spanWord b m).getMsbD k <;> rfl

theorem spanErrors_self (a : Bytes) (m : Nat) : spanErrors a a m = 0 := by simp [spanErrors]

theorem nibbles_append (b : Byte) : b.extractLsb' 4 4 ++ b.extractLsb' 0 4 = b := by
  apply BitVec.eq_of_toNat_eq
  rw [System.toNat_append_eq_add]
  simp only [BitVec.extractLsb'_toNat, Nat.shiftRight_eq_div_pow]
  omega

/-- Every nibble is decoded from a word within distance 1 of its codeword. -/
theorem fecDecode_of_spanErrors_le_one {d img : Bytes} (size : img.length = (fecEncode d).length)
    (near : ∀ m < 2 * d.length, spanErrors img (fecEncode d) m ≤ 1) : fecDecode img d.length = d := by
  have distance : ∀ m < 2 * d.length, weight (spanWord img m ^^^ spanWord (fecEncode d) m) ≤ 1 := fun m hm => by
    have inside := span_inside_fecEncode hm
    rw [← spanErrors_eq_weight (size ▸ inside) inside]
    exact near m hm
  refine List.ext_getElem? fun j => ?_
  by_cases hj : j < d.length
  · obtain ⟨high, low⟩ := spanWord_fecEncode hj
    have decoded_high := hdec_of_weight_le_one (high ▸ distance (2 * j) (by omega))
    have decoded_low := hdec_of_weight_le_one (low ▸ distance (2 * j + 1) (by omega))
    rw [fecDecode_getElem? img hj, decoded_high, decoded_low, nibbles_append, List.getElem?_eq_getElem hj]
  · rw [List.getElem?_eq_none (by simpa using hj), List.getElem?_eq_none (by omega)]

theorem fecDecode_fecEncode (d : Bytes) : fecDecode (fecEncode d) d.length = d :=
  fecDecode_of_spanErrors_le_one rfl fun m _ => by simp [spanErrors_self]

/-- Settles O22: the round trip is the case without errors. -/
theorem fecSurvivesOneErrorPerCodeword : Obligations.FecSurvivesOneErrorPerCodeword :=
  ⟨fecDecode_fecEncode, fun _ _ => fecDecode_of_spanErrors_le_one⟩

/-! ## Lengths (R106) -/

/-- Settles O20: the image's length is its number of coded bits in whole bytes, the rest is arithmetic. -/
theorem fecImageLength : Obligations.FecImageLength := by
  refine ⟨Crc.fecEncode_length, fun l => ?_, by decide⟩
  unfold fecLen ceilDiv
  omega

/-! ## FEC.ENC (R105) -/

theorem exec_fecEnc (data : Bytes) (s : State) : exec (.fecEnc data) s = execFecEnc data s := rfl

theorem exec_fecEnc_of_lt {data : Bytes} {s : State} (h : maxPayload s.params < data.length) :
    exec (.fecEnc data) s = .next (s.answered [0x23#8]) := by
  rw [exec_fecEnc, execFecEnc, if_pos h]
  rfl

theorem exec_fecEnc_of_le {data : Bytes} {s : State} (h : data.length ≤ maxPayload s.params) :
    exec (.fecEnc data) s = .next (s.answered (0x00#8 :: fecEncode data)) := by
  rw [exec_fecEnc, execFecEnc, if_neg (Nat.not_lt.mpr h)]
  rfl

theorem getMsbD_eq_getLsbD (c : BitVec 7) {k : Nat} (h : k < 7) : c.getMsbD k = c.getLsbD (6 - k) := by
  simp [BitVec.getMsbD, h]

theorem getElem?_bitStream_fecEncode {d : Bytes} {j k : Nat} (hj : j < d.length) (hk : k < 7) :
    (bitStream (fecEncode d))[14 * j + k]? = some ((henc (d[j].extractLsb' 4 4)).getLsbD (6 - k)) ∧
    (bitStream (fecEncode d))[14 * j + 7 + k]? = some ((henc (d[j].extractLsb' 0 4)).getLsbD (6 - k)) := by
  obtain ⟨high, low⟩ := spanWord_fecEncode hj
  rw [← getMsbD_eq_getLsbD _ hk, ← getMsbD_eq_getLsbD _ hk, ← high, ← low,
    ← getElem?_span (span_inside_fecEncode (by omega)) hk, ← getElem?_span (span_inside_fecEncode (by omega)) hk,
    show 7 * (2 * j) = 14 * j by omega, show 7 * (2 * j + 1) = 14 * j + 7 by omega]
  exact ⟨rfl, rfl⟩

theorem getElem?_padding {d : Bytes} {k : Nat} (coded : 14 * d.length ≤ k) (inside : k < 8 * (fecEncode d).length) :
    (bitStream (fecEncode d))[k]? = some false := by
  rw [Crc.fecEncode_length, fecLen, ceilDiv] at inside
  rw [bitStream_fecEncode, padToBytes, fecBits_flatMap_length,
    List.getElem?_append_right (by rwa [fecBits_flatMap_length]), fecBits_flatMap_length, List.getElem?_replicate,
    if_pos (by omega)]

/-- Settles O19: the stream read at the codewords and after them. -/
theorem fecEncPacksTheCodewords : Obligations.FecEncPacksTheCodewords := by
  intro data s
  refine ⟨rfl, exec_fecEnc_of_lt,
    fun h => ⟨_, exec_fecEnc_of_le h, ?_, ?_, fun j hj k hk => ?_, fun k => getElem?_padding⟩,
    exec_fecEnc_of_le (Nat.zero_le _), exec_fecEnc_of_le (data := [0x41#8])⟩
  · rw [Crc.fecEncode_length, fecLen, ceilDiv]
    omega
  · rw [Crc.fecEncode_length, fecLen, ceilDiv]
    omega
  · rw [List.getD_eq_getElem _ _ hj]
    exact getElem?_bitStream_fecEncode hj hk

/-! ## FEC.DEC (R107) -/

theorem exec_fecDec (len : Half) (img : Bytes) (s : State) : exec (.fecDec len img) s = execFecDec len img s := rfl

section

variable {len : Half} {img : Bytes} {s : State}

theorem exec_fecDec_of_refused (h : maxPayload s.params < len.toNat ∨ img.length ≠ fecLen len.toNat) :
    exec (.fecDec len img) s = .next (s.answered [0x23#8]) := by
  rw [exec_fecDec, execFecDec, if_pos h]
  rfl

theorem exec_fecDec_of_le (h : len.toNat ≤ maxPayload s.params) (size : img.length = fecLen len.toNat) :
    exec (.fecDec len img) s = .next (s.answered (0x00#8 :: fecDecode img len.toNat)) := by
  rw [exec_fecDec, execFecDec, if_neg (by omega)]
  rfl

end

/-- The word of a span in the stream's own bits. -/
theorem getLsbD_spanWord {img : Bytes} {m k : Nat} (inside : 7 * m + 7 ≤ 8 * img.length) (hk : k < 7) :
    (spanWord img m).getLsbD (6 - k) = (bitStream img).getD (7 * m + k) false := by
  rw [List.getD_eq_getElem?_getD, getElem?_span inside hk, ← getMsbD_eq_getLsbD _ hk, Option.getD_some]

/-- The two words a decoded byte comes from, in the stream's own bits. -/
theorem words_of_byte {img : Bytes} {n j : Nat} (size : img.length = fecLen n) (hj : j < n) :
    ∃ h l : BitVec 7,
      (∀ k < 7, h.getLsbD (6 - k) = (bitStream img).getD (14 * j + k) false) ∧
      (∀ k < 7, l.getLsbD (6 - k) = (bitStream img).getD (14 * j + 7 + k) false) ∧
      (fecDecode img n)[j]? = some ((hdec h).1 ++ (hdec l).1) := by
  rw [fecLen, ceilDiv] at size
  refine ⟨spanWord img (2 * j), spanWord img (2 * j + 1), fun k hk => ?_, fun k hk => ?_, fecDecode_getElem? img hj⟩
  · rw [getLsbD_spanWord (by omega) hk, show 7 * (2 * j) = 14 * j by omega]
  · rw [getLsbD_spanWord (by omega) hk, show 7 * (2 * j + 1) = 14 * j + 7 by omega]

/-- Settles O21: each byte by the words of its two spans. -/
theorem fecDecUnpacksTheCodewords : Obligations.FecDecUnpacksTheCodewords :=
  ⟨fun _ _ _ => rfl, fun _ => System.parseU16Data_of_short _, fun len img _ =>
    ⟨exec_fecDec_of_refused,
      fun h size => ⟨_, exec_fecDec_of_le h size, fecDecode_length img len.toNat, fun _ => words_of_byte size⟩,
      exec_fecDec_of_le (Nat.zero_le _) rfl,
      fun h => ⟨exec_fecDec_of_le (len := 1#16) h rfl, exec_fecDec_of_le (len := 1#16) h rfl⟩⟩⟩

end Sys2Proof.Fec

/-! SUPPORT. The frame codec (spec/42_frame.md R121 to R131). The fields of a frame are read at counted offsets; in a
frame FRMENC made, the offsets meet the fields, and the FEC round trip gives the payload. -/

namespace Sys2Proof.FrameCodec

open Sys2Proof.Machine

/-! ## Reading back the fields (R121, R125) -/

/-- The byte at an offset counted from the end of the front part. -/
theorem byteAt_append (a b : Bytes) (i : Nat) : byteAt (a ++ b) (a.length + i) = byteAt b i := by
  simp [byteAt, List.getElem?_append_right]

/-- A 16-bit field right after the front part. -/
theorem halfAt_append_be16 (a : Bytes) (v : Half) (b : Bytes) : halfAt (a ++ (be16 v ++ b)) a.length = v := by
  have high := byteAt_append a (be16 v ++ b) 0
  rw [Nat.add_zero] at high
  rw [halfAt, high, byteAt_append]
  exact unBe16_split v

section

variable (p : Params) (seq fid total : Byte) (payload : Bytes)

theorem frameBody_length : (frameBody seq fid total payload).length = 5 + fecLen payload.length := by
  simp [frameBody, Crc.fecEncode_length]
  omega

/-- The check value stands after the body. -/
theorem halfAt_check_frameEncode :
    halfAt (frameEncode p seq fid total payload) (frameBody seq fid total payload).length =
      crc16 p (frameBody seq fid total payload) := by
  have field := halfAt_append_be16 (frameBody seq fid total payload) (crc16 p (frameBody seq fid total payload)) []
  rwa [List.append_nil] at field

/-- The length field stands after the header and the image. -/
theorem halfAt_length_frameEncode :
    halfAt (frameEncode p seq fid total payload) (3 + fecLen payload.length) = len16 payload := by
  have front_length : ([seq, fid, total] ++ fecEncode payload).length = 3 + fecLen payload.length := by
    simp [Crc.fecEncode_length]
    omega
  rw [← front_length, frameEncode, frameBody, List.append_assoc _ (be16 _)]
  exact halfAt_append_be16 _ _ _

theorem slice_image_frameEncode :
    slice (frameEncode p seq fid total payload) 3 (fecLen payload.length) = fecEncode payload := by
  have split : frameEncode p seq fid total payload = [seq, fid, total] ++ (fecEncode payload ++
      (be16 (len16 payload) ++ be16 (crc16 p (frameBody seq fid total payload)))) := by
    rw [frameEncode, frameBody]
    simp only [List.append_assoc]
  have header : [seq, fid, total].length = 3 := rfl
  rw [slice, split, List.drop_left' header, List.take_left' (Crc.fecEncode_length payload)]

end

theorem toNat_len16 {payload : Bytes} (h : payload.length < 65536) : (len16 payload).toNat = payload.length := by
  rw [len16, BitVec.toNat_ofNat, Nat.mod_eq_of_lt h]

/-- Settles O26: each check of FRMDEC meets the field FRMENC put there. -/
theorem frameRoundTrip : Obligations.FrameRoundTrip := by
  intro p seq fid total m fits
  have size := Crc.frameEncode_length p seq fid total m
  have body := frameBody_length seq fid total m
  have bound := Crc.fecLen_mono fits
  have len := toNat_len16 (fits.trans_lt (Frag.maxPayload_lt p))
  rw [minFrame] at size
  have at_check : (frameEncode p seq fid total m).length - 2 = (frameBody seq fid total m).length := by omega
  have at_length : (frameEncode p seq fid total m).length - 4 = 3 + fecLen m.length := by omega
  have image : (frameEncode p seq fid total m).length - minFrame = fecLen m.length := by rw [minFrame]; omega
  rw [frameDecode_ok_iff, at_check, at_length, image, halfAt_check_frameEncode, halfAt_length_frameEncode, len,
    slice_image_frameEncode, Fec.fecDecode_fecEncode]
  refine ⟨by rw [minFrame]; omega, by rw [maxFrame, minFrame]; omega, ?_, rfl, rfl⟩
  rw [frameEncode, List.take_left]

/-! ## Lengths (R123, R128) -/

/-- Settles O25: the layout's length, and the bound FRMDEC's own length check puts on the payload. -/
theorem frameLengths : Obligations.FrameLengths := by
  refine ⟨fun p seq fid total payload => ?_, fun _ _ _ => Invariant.payload_length_le⟩
  have size := Crc.frameEncode_length p seq fid total payload
  rw [minFrame] at size
  refine ⟨size, fun fits => ?_⟩
  have bound := Crc.fecLen_mono fits
  rw [maxFrame, minFrame]
  omega

/-! ## FRM.ENC (R121) -/

theorem exec_frmEnc (seq fid total : Byte) (payload : Bytes) (s : State) :
    exec (.frmEnc seq fid total payload) s = execFrmEnc seq fid total payload s := rfl

section

variable {seq fid total : Byte} {payload : Bytes} {s : State}

theorem exec_frmEnc_of_lt (h : maxPayload s.params < payload.length) :
    exec (.frmEnc seq fid total payload) s = .next (s.answered [0x23#8]) := by
  rw [exec_frmEnc, execFrmEnc, if_pos h]
  rfl

theorem exec_frmEnc_of_le (h : payload.length ≤ maxPayload s.params) :
    exec (.frmEnc seq fid total payload) s =
      .next (s.answered (0x00#8 :: frameEncode s.params seq fid total payload)) := by
  rw [exec_frmEnc, execFrmEnc, if_neg (Nat.not_lt.mpr h)]
  rfl

end

/-! ### The worked examples -/

/-- The bit step on numbers (R92), on which the examples' check values are computed. -/
def crcBitNat (poly r : Nat) : Nat := if 32768 ≤ r then (2 * r % 65536) ^^^ poly else 2 * r % 65536

theorem toNat_repeat_crcBit (poly r : Half) (n : Nat) :
    (Nat.repeat (crcBit poly) n r).toNat = Nat.repeat (crcBitNat poly.toNat) n r.toNat := by
  induction n with
  | zero => rfl
  | succ n ih =>
    rw [Nat.repeat, Crc.crcBit_toNat, ih]
    rfl

theorem toNat_crcFrom (poly r : Half) (data : Bytes) :
    (crcFrom poly r data).toNat =
      data.foldl (fun r b => Nat.repeat (crcBitNat poly.toNat) 8 (r ^^^ 256 * b.toNat)) r.toNat := by
  induction data generalizing r with
  | nil => rfl
  | cons b data ih =>
    have high : (BitVec.ofNat 16 (256 * b.toNat)).toNat = 256 * b.toNat := by
      rw [BitVec.toNat_ofNat]
      omega
    rw [crcFrom_cons, ih, Crc.crcByte_eq_repeat, toNat_repeat_crcBit, BitVec.toNat_xor, high, List.foldl_cons]

/-- The text of the worked example, `Hello world!`. -/
def exampleText : Bytes :=
  [0x48#8, 0x65#8, 0x6C#8, 0x6C#8, 0x6F#8, 0x20#8, 0x77#8, 0x6F#8, 0x72#8, 0x6C#8, 0x64#8, 0x21#8]

/-- The frame of the worked example (R121). -/
def exampleFrame : Bytes :=
  [0x01#8, 0x00#8, 0x01#8, 0x99#8, 0xC3#8, 0x32#8, 0x5C#8, 0xCF#8, 0x33#8, 0x3C#8, 0xCD#8, 0xFD#8, 0x50#8, 0x01#8,
   0xE3#8, 0xF3#8, 0x7F#8, 0x1E#8, 0xAB#8, 0x33#8, 0xCC#8, 0xD3#8, 0x15#8, 0x69#8, 0x00#8, 0x0C#8, 0xD9#8, 0xDE#8]

/-- Twelve bytes of text are three groups of four. -/
theorem fecEncode_exampleText : fecEncode exampleText = (exampleFrame.drop 3).take 21 := by
  have groups : exampleText = exampleText.take 4 ++ ((exampleText.drop 4).take 4 ++ exampleText.drop 8) := rfl
  have first : fecEncode (exampleText.take 4) = (exampleFrame.drop 3).take 7 := by decide
  have second : fecEncode ((exampleText.drop 4).take 4) = (exampleFrame.drop 10).take 7 := by decide
  have third : fecEncode (exampleText.drop 8) = (exampleFrame.drop 17).take 7 := by decide
  rw [groups, Fec.fecEncode_append rfl, Fec.fecEncode_append rfl, first, second, third]
  rfl

theorem frameBody_exampleText : frameBody 1#8 0#8 1#8 exampleText = exampleFrame.take 26 := by
  rw [frameBody, fecEncode_exampleText]
  rfl

theorem crc16_exampleFrame {p : Params} (h : p.crcPoly = 0x8005#16) : crc16 p (exampleFrame.take 26) = 0xD9DE#16 := by
  apply BitVec.eq_of_toNat_eq
  rw [crc16, h, toNat_crcFrom]
  simp [exampleFrame, crcBitNat, Nat.repeat]

theorem frameEncode_exampleText {p : Params} (h : p.crcPoly = 0x8005#16) :
    frameEncode p 1#8 0#8 1#8 exampleText = exampleFrame := by
  rw [frameEncode, frameBody_exampleText, crc16_exampleFrame h]
  rfl

theorem frameEncode_empty {p : Params} (h : p.crcPoly = 0x8005#16) :
    frameEncode p 0#8 0#8 1#8 [] = [0x00#8, 0x00#8, 0x01#8, 0x00#8, 0x00#8, 0xA4#8, 0x17#8] := by
  have body : frameBody 0#8 0#8 1#8 [] = [0x00#8, 0x00#8, 0x01#8, 0x00#8, 0x00#8] := by decide
  have check : crc16 p [0x00#8, 0x00#8, 0x01#8, 0x00#8, 0x00#8] = 0xA417#16 := by
    apply BitVec.eq_of_toNat_eq
    rw [crc16, h, toNat_crcFrom]
    simp [crcBitNat, Nat.repeat]
  rw [frameEncode, body, check]
  rfl

/-- Settles O23: the layout is FRMENC's definition, and the examples are computed field by field. -/
theorem frmEncAnswersTheFrame : Obligations.FrmEncAnswersTheFrame := by
  refine ⟨fun _ _ _ _ => rfl, fun _ => Frag.parseHdrData_of_short _, fun _ _ _ _ s =>
    ⟨exec_frmEnc_of_lt, fun h => ⟨_, rfl, exec_frmEnc_of_le h⟩, fun poly => ?_, fun poly h => ?_⟩⟩
  · rw [exec_frmEnc_of_le (Nat.zero_le _), frameEncode_empty poly]
  · have answer := exec_frmEnc_of_le (seq := 1#8) (fid := 0#8) (total := 1#8) (payload := exampleText) h
    rw [frameEncode_exampleText poly] at answer
    exact answer

/-! ## FRM.DEC (R125 to R130) -/

theorem exec_frmDec (f : Bytes) (s : State) : exec (.frmDec f) s = execFrmDec f s := rfl

section

variable {f : Bytes} {s : State}

theorem exec_frmDec_of_error {e : FrameError} (h : frameDecode s.params f = .error e) :
    exec (.frmDec f) s = .next (s.answered [(frameErrorStatus e).code]) := by
  rw [exec_frmDec, execFrmDec, h]
  rfl

theorem exec_frmDec_of_ok {fr : Frame} (h : frameDecode s.params f = .ok fr) :
    exec (.frmDec f) s = .next (s.answered (0x00#8 :: fr.seq :: fr.fid :: fr.total :: fr.payload)) := by
  rw [exec_frmDec, execFrmDec, h]
  rfl

theorem frameDecode_of_short {p : Params} (h : f.length < 7) : frameDecode p f = .error .short := by
  rw [frameDecode, minFrame, if_pos h]

theorem frameDecode_of_oversize {p : Params} (hmin : 7 ≤ f.length) (h : maxFrame p < f.length) :
    frameDecode p f = .error .oversize := by
  rw [frameDecode, minFrame, if_neg (Nat.not_lt.mpr hmin), if_pos h]

end

/-- Settles O24: the checks in their order; the worked example is the round trip of its text. -/
theorem frmDecChecksInOrder : Obligations.FrmDecChecksInOrder := by
  intro f s
  refine ⟨rfl, fun short => exec_frmDec_of_error (frameDecode_of_short short),
    fun hmin large => exec_frmDec_of_error (frameDecode_of_oversize hmin large), fun hmin hmax check => ?_,
    fun len hmin hmax check field => ⟨fun other => ?_, fun agrees => ?_⟩, fun poly hmax example_frame => ?_⟩
  · rw [← Events.halfAt_check hmin] at check
    exact exec_frmDec_of_error (Crc.frameDecode_of_crc_ne hmin hmax check)
  · rw [← Events.halfAt_check hmin] at check
    rw [← Events.halfAt_length hmin] at field
    exact exec_frmDec_of_error (Events.frameDecode_of_length hmin hmax check (field ▸ other))
  · rw [← Events.halfAt_check hmin] at check
    rw [← Events.halfAt_length hmin] at field
    subst field
    exact exec_frmDec_of_ok ((frameDecode_ok_iff _ _ _).mpr ⟨hmin, hmax, check, agrees, rfl⟩)
  · have fits : exampleText.length ≤ maxPayload s.params := by
      rw [maxFrame, minFrame, fecLen, ceilDiv] at hmax
      rw [show exampleText.length = 12 from rfl]
      omega
    have decoded := frameRoundTrip s.params 1#8 0#8 1#8 exampleText fits
    rw [frameEncode_exampleText poly] at decoded
    rw [example_frame]
    exact exec_frmDec_of_ok decoded

end Sys2Proof.FrameCodec

/-! SUPPORT. What is emitted, and why (spec/30_encoding.md R71, spec/60_exceptions.md R225). Each move appends one of
seven lists of outputs, and a command ends in a refusal that is its code alone or in a response of status OK. -/

namespace Sys2Proof.Outputs

open Sys2Proof.Machine Sys2Proof.Effects

/-! ## What an operation appends (R225) -/

/-- The outputs an operation can append: a command ends with its response; TICK retransmits or reports a failure; RX
acknowledges, delivers or reports a success. -/
inductive Appends : Instr → List Output → Prop
  | response {i : Instr} (command : isCommand i = true) (frames : List Bytes) (r : Bytes) :
      Appends i (frames.map .tx ++ [.rsp r])
  | nothing {i : Instr} (stimulus : isCommand i = false) : Appends i []
  | resent (frames : List Bytes) : Appends .tick (frames.map .tx)
  | failure : Appends .tick [.evt sendDone Status.retryExhausted.code]
  | success (f : Bytes) : Appends (.rx f) [.evt sendDone Status.ok.code]
  | acknowledged (f frame : Bytes) : Appends (.rx f) [.tx frame]
  | delivered (f frame msg : Bytes) : Appends (.rx f) [.tx frame, .dlv msg]

theorem txBurst_eq_map (s : State) (which : Nat → Bool) :
    s.txBurst which = (((List.range s.txTotal.toNat).filter which).map s.txFrame).map .tx := by
  rw [State.txBurst, List.map_map]
  rfl

section

variable {s t : State} {i : Instr}

/-- The outputs of an operation are `outs`, after those emitted before. -/
abbrev Emits (s : State) (i : Instr) (t : State) : Prop := ∃ outs, t.emitted = s.emitted ++ outs ∧ Appends i outs

theorem emits_nothing (same : t.emitted = s.emitted) (stimulus : isCommand i = false) : Emits s i t :=
  ⟨[], by rw [same, List.append_nil], .nothing stimulus⟩

theorem emits_response {r : Bytes} (same : t.emitted = s.emitted) (command : isCommand i = true) :
    Emits s i (t.answered r) := by
  refine ⟨[.rsp r], ?_, .response command [] r⟩
  rw [State.answered, same]

theorem passive_emits (m : Passive s i t) : Emits s i t := by
  cases m with
  | answered command => exact emits_response rfl command
  | undecoded _ drop => exact emits_nothing (by rcases drop with rfl | rfl <;> rfl) rfl
  | ignored | badMeta | waiting => exact emits_nothing rfl rfl
  | @duplicate f fr => exact ⟨_, rfl, .acknowledged f (s.ackFrame fr)⟩

theorem sendMove_emits (m : SendMove s i t) : Emits s i t := by
  cases m with
  | @started msg =>
    refine ⟨(s.loadSend msg).txBurst (fun _ => true) ++ [Output.rsp [0x00#8]], ?_, ?_⟩
    · rw [← List.append_assoc]
      rfl
    rw [txBurst_eq_map]
    exact .response rfl _ _
  | partlyAcked | countedDown => exact emits_nothing rfl rfl
  | @succeeded f => exact ⟨_, rfl, .success f⟩
  | failed => exact ⟨_, rfl, .failure⟩
  | resent =>
    refine ⟨s.txBurst fun i => Bank.get s.pending i, rfl, ?_⟩
    rw [txBurst_eq_map]
    exact .resent _

theorem recvMove_emits (m : RecvMove s i t) : Emits s i t := by
  cases m with
  | accepted => exact emits_response (Arq.accept_emitted _ _ _ _ _) rfl
  | dropped => exact emits_response (State.destroyRb_emitted s) rfl
  | @kept f fr => exact ⟨[.tx (s.ackFrame fr)], by simp, .acknowledged f _⟩
  | @delivered f fr _ _ msg => exact ⟨[.tx (s.ackFrame fr), .dlv msg], by simp, .delivered f _ msg⟩

theorem effect_emits (h : Effect s i t) : Emits s i t := by
  cases h with
  | passive m => exact passive_emits m
  | send m => exact sendMove_emits m
  | recv m => exact recvMove_emits m
  | reset reset fresh => subst reset; exact emits_nothing (by rw [fresh]) rfl

end

/-- Settles O49, clause by clause from the lists an operation can append. -/
theorem outputsHaveTheirCauses : Obligations.OutputsHaveTheirCauses := by
  intro i s t run
  obtain ⟨outs, added, appends⟩ := effect_emits (effect_of_exec run)
  refine ⟨outs, added, ?_⟩
  cases appends with
  | response command =>
    refine ⟨by simp, by simp, by simp [command], ?_, ?_⟩
    · rintro rfl
      nomatch command
    · rintro f rfl
      nomatch command
  | nothing => simp
  | resent => simp
  | failure | success => simp [sendDone, Status.code, isRsp]
  | acknowledged | delivered => simp [isRsp]

/-! ## The response of a command (R71) -/

/-- A command is refused by its code alone, or its last output is a response of status OK. -/
def Answers (s : State) (i : Instr) : Prop :=
  (∃ e : Status, exec i s = .next (s.raise e)) ∨
    ∃ (t : State) (outs : List Output) (r : Bytes), exec i s = .next (t.respond r) ∧
      t.emitted = s.emitted ++ outs ∧ ∀ o ∈ outs, isRsp o = false

section

variable {s : State} {i : Instr}

theorem Answers.of_raise {e : Status} (run : exec i s = .next (s.raise e)) : Answers s i := .inl ⟨e, run⟩

/-- A response without other outputs. -/
theorem Answers.of_respond {t : State} {r : Bytes} (run : exec i s = .next (t.respond r))
    (same : t.emitted = s.emitted) : Answers s i :=
  .inr ⟨t, [], r, run, by rw [same, List.append_nil], by simp⟩

theorem Answers.of_check {c : Prop} [Decidable c] {e : Status} {r : Bytes}
    (run : exec i s = if c then .next (s.raise e) else .next (s.respond r)) : Answers s i := by
  split at run
  · exact .of_raise run
  · exact .of_respond run rfl

theorem answers_frmDec (f : Bytes) (s : State) : Answers s (.frmDec f) := by
  cases decoded : frameDecode s.params f with
  | ok fr => exact .of_respond (FrameCodec.exec_frmDec_of_ok decoded) rfl
  | error e => exact .of_raise (FrameCodec.exec_frmDec_of_error decoded)

theorem answers_statRd (idx : Byte) (s : State) : Answers s (.statRd idx) := by
  cases content : s.statValue idx with
  | some v => exact .of_respond (System.exec_statRd_of_some content) rfl
  | none => exact .of_raise (e := .badOperand) (System.exec_statRd_of_none content)

theorem answers_frgAccept (key fid total : Byte) (payload : Bytes) (s : State) :
    Answers s (.frgAccept key fid total payload) := by
  by_cases large : maxPayload s.params < payload.length
  · exact .of_raise (e := .badOperand) (Frag.exec_frgAccept_of_lt large)
  have size := Nat.not_lt.mp large
  by_cases bad : total = 0#8 ∨ total ≤ fid
  · exact .of_raise (e := .badMeta) (Frag.exec_frgAccept_of_badMeta size bad)
  have good : fid < total := BitVec.not_le.mp fun le => bad (.inr le)
  exact .of_respond (Frag.exec_frgAccept_of_good size good) (Arq.accept_emitted _ _ _ _ _)

/-- A send that starts transmits its frames before it answers (spec/44_arq.md R162). -/
theorem answers_arqSend (msg : Bytes) (s : State) : Answers s (.arqSend msg) := by
  cases flying : s.arqState.inFlight with
  | true => exact .of_raise (e := .busy) (Arq.exec_arqSend_of_inFlight flying)
  | false =>
    by_cases long : TooLong s.params msg
    · exact .of_raise (e := .tooLong) (Arq.exec_arqSend_of_tooLong flying long)
    · refine .inr ⟨_, (s.loadSend msg).txBurst fun _ => true, [], Arq.exec_arqSend_of_fits flying long, rfl, ?_⟩
      rw [txBurst_eq_map]
      simp [isRsp]

theorem answers_of_encode {c : Bytes} (command : encode i = .cmd c) : Answers s i := by
  cases i with
  | crcCompute | crcVerify | hamEnc | hamDec | fecEnc | fecDec | frmEnc | frgSplit => exact .of_check rfl
  | frgShould => exact .of_respond rfl rfl
  | frgDrop => exact .of_respond rfl (State.destroyRb_emitted s)
  | frmDec f => exact answers_frmDec f s
  | statRd idx => exact answers_statRd idx s
  | frgAccept key fid total payload => exact answers_frgAccept key fid total payload s
  | arqSend msg => exact answers_arqSend msg s
  | rx | tick | reset => nomatch command

end

/-- Settles O48: the dispatcher's refusals and the commands' are the status alone, every other answer has status OK. -/
theorem everyCommandGetsOneResponse : Obligations.EveryCommandGetsOneResponse := by
  intro s c rest next
  cases meaning : decode (.cmd c) with
  | error e =>
    exact ⟨_, [], _, [], System.step_of_decode_error next meaning, by rw [List.append_nil]; rfl, by simp,
      fun _ => ⟨rfl, rfl, rfl⟩⟩
  | ok i =>
    have run := stepRunsTheDecodedEvent s _ _ _ next meaning
    rcases answers_of_encode (s := { s with presented := rest }) (Encoding.encode_of_decode meaning) with
      ⟨e, refused⟩ | ⟨t, outs, r, answered, added, others⟩
    · exact ⟨_, [], e.code, [], run.trans refused, by rw [List.append_nil]; rfl, by simp, fun _ => ⟨rfl, rfl, rfl⟩⟩
    · exact ⟨_, outs, 0x00#8, r, run.trans answered, by rw [State.respond_emitted, added]; rfl, others,
        fun other => absurd rfl other⟩

end Sys2Proof.Outputs
